-- ==== Sys2Proof/Word.lean ====
section
/-! DEFINITION. The two widths of the hardware (00_scope.md R5: REG_WIDTH = 8, ADDR_WIDTH = 16). -/

namespace Sys2Proof

/-- The width of A, X, Y, SP and of every data byte (R5: `REG_WIDTH`). -/
abbrev Byte := BitVec 8

/-- The width of PC and of every address (R5: `ADDR_WIDTH`). -/
abbrev Word := BitVec 16

end Sys2Proof
end

