-- ==== Sys2Proof/Syntax.lean ====
section
/-! DEFINITION. The instructions: one constructor per row of spec/opcode_table.json (30_encoding.md R53), with the raw
operand of its format (R50, R52) as its argument. A constructor is the mnemonic, followed by the operand form where the
mnemonic has more than one. Also the thirteen operand forms (R51) and the 55 operations as types of their own. -/

namespace Sys2Proof

/-- One constructor per opcode byte that has a decoding rule (R53). -/
inductive Instr where
  -- 42_logic_bit_compare.md: logic, BIT, compare
  /-- `AND #$nn`: R100, R88. -/
  | andImm (m : Byte)
  /-- `AND $nn`: R100, R89. -/
  | andZp (o : Byte)
  /-- `AND $nn,X`: R100, R90. -/
  | andZpx (o : Byte)
  /-- `AND $hhll`: R100, R92. -/
  | andAbs (w : Word)
  /-- `AND $hhll,X`: R100, R93. -/
  | andAbsx (w : Word)
  /-- `AND $hhll,Y`: R100, R94. -/
  | andAbsy (w : Word)
  /-- `AND ($nn,X)`: R100, R95. -/
  | andIndx (o : Byte)
  /-- `AND ($nn),Y`: R100, R96. -/
  | andIndy (o : Byte)
  /-- `EOR #$nn`: R101, R88. -/
  | eorImm (m : Byte)
  /-- `EOR $nn`: R101, R89. -/
  | eorZp (o : Byte)
  /-- `EOR $nn,X`: R101, R90. -/
  | eorZpx (o : Byte)
  /-- `EOR $hhll`: R101, R92. -/
  | eorAbs (w : Word)
  /-- `EOR $hhll,X`: R101, R93. -/
  | eorAbsx (w : Word)
  /-- `EOR $hhll,Y`: R101, R94. -/
  | eorAbsy (w : Word)
  /-- `EOR ($nn,X)`: R101, R95. -/
  | eorIndx (o : Byte)
  /-- `EOR ($nn),Y`: R101, R96. -/
  | eorIndy (o : Byte)
  /-- `ORA #$nn`: R102, R88. -/
  | oraImm (m : Byte)
  /-- `ORA $nn`: R102, R89. -/
  | oraZp (o : Byte)
  /-- `ORA $nn,X`: R102, R90. -/
  | oraZpx (o : Byte)
  /-- `ORA $hhll`: R102, R92. -/
  | oraAbs (w : Word)
  /-- `ORA $hhll,X`: R102, R93. -/
  | oraAbsx (w : Word)
  /-- `ORA $hhll,Y`: R102, R94. -/
  | oraAbsy (w : Word)
  /-- `ORA ($nn,X)`: R102, R95. -/
  | oraIndx (o : Byte)
  /-- `ORA ($nn),Y`: R102, R96. -/
  | oraIndy (o : Byte)
  /-- `BIT $nn`: R103, R89. -/
  | bitZp (o : Byte)
  /-- `BIT $hhll`: R103, R92. -/
  | bitAbs (w : Word)
  /-- `CMP #$nn`: R104, R88. -/
  | cmpImm (m : Byte)
  /-- `CMP $nn`: R104, R89. -/
  | cmpZp (o : Byte)
  /-- `CMP $nn,X`: R104, R90. -/
  | cmpZpx (o : Byte)
  /-- `CMP $hhll`: R104, R92. -/
  | cmpAbs (w : Word)
  /-- `CMP $hhll,X`: R104, R93. -/
  | cmpAbsx (w : Word)
  /-- `CMP $hhll,Y`: R104, R94. -/
  | cmpAbsy (w : Word)
  /-- `CMP ($nn,X)`: R104, R95. -/
  | cmpIndx (o : Byte)
  /-- `CMP ($nn),Y`: R104, R96. -/
  | cmpIndy (o : Byte)
  /-- `CPX #$nn`: R105, R88. -/
  | cpxImm (m : Byte)
  /-- `CPX $nn`: R105, R89. -/
  | cpxZp (o : Byte)
  /-- `CPX $hhll`: R105, R92. -/
  | cpxAbs (w : Word)
  /-- `CPY #$nn`: R106, R88. -/
  | cpyImm (m : Byte)
  /-- `CPY $nn`: R106, R89. -/
  | cpyZp (o : Byte)
  /-- `CPY $hhll`: R106, R92. -/
  | cpyAbs (w : Word)
  -- 43_inc_dec.md: increment and decrement
  /-- `INC $nn`: R110, R89. -/
  | incZp (o : Byte)
  /-- `INC $nn,X`: R110, R90. -/
  | incZpx (o : Byte)
  /-- `INC $hhll`: R110, R92. -/
  | incAbs (w : Word)
  /-- `INC $hhll,X`: R110, R93. -/
  | incAbsx (w : Word)
  /-- `DEC $nn`: R111, R89. -/
  | decZp (o : Byte)
  /-- `DEC $nn,X`: R111, R90. -/
  | decZpx (o : Byte)
  /-- `DEC $hhll`: R111, R92. -/
  | decAbs (w : Word)
  /-- `DEC $hhll,X`: R111, R93. -/
  | decAbsx (w : Word)
  /-- `INX`: R112, R86. -/
  | inx
  /-- `INY`: R113, R86. -/
  | iny
  /-- `DEX`: R114, R86. -/
  | dex
  /-- `DEY`: R115, R86. -/
  | dey
  -- 44_add_subtract.md: add and subtract with carry
  /-- `ADC #$nn`: R121, R88. -/
  | adcImm (m : Byte)
  /-- `ADC $nn`: R121, R89. -/
  | adcZp (o : Byte)
  /-- `ADC $nn,X`: R121, R90. -/
  | adcZpx (o : Byte)
  /-- `ADC $hhll`: R121, R92. -/
  | adcAbs (w : Word)
  /-- `ADC $hhll,X`: R121, R93. -/
  | adcAbsx (w : Word)
  /-- `ADC $hhll,Y`: R121, R94. -/
  | adcAbsy (w : Word)
  /-- `ADC ($nn,X)`: R121, R95. -/
  | adcIndx (o : Byte)
  /-- `ADC ($nn),Y`: R121, R96. -/
  | adcIndy (o : Byte)
  /-- `SBC #$nn`: R122, R88. -/
  | sbcImm (m : Byte)
  /-- `SBC $nn`: R122, R89. -/
  | sbcZp (o : Byte)
  /-- `SBC $nn,X`: R122, R90. -/
  | sbcZpx (o : Byte)
  /-- `SBC $hhll`: R122, R92. -/
  | sbcAbs (w : Word)
  /-- `SBC $hhll,X`: R122, R93. -/
  | sbcAbsx (w : Word)
  /-- `SBC $hhll,Y`: R122, R94. -/
  | sbcAbsy (w : Word)
  /-- `SBC ($nn,X)`: R122, R95. -/
  | sbcIndx (o : Byte)
  /-- `SBC ($nn),Y`: R122, R96. -/
  | sbcIndy (o : Byte)
  -- 45_shift_rotate.md: shifts and rotates
  /-- `ASL A`: R130, R87. -/
  | aslAcc
  /-- `ASL $nn`: R130, R89. -/
  | aslZp (o : Byte)
  /-- `ASL $nn,X`: R130, R90. -/
  | aslZpx (o : Byte)
  /-- `ASL $hhll`: R130, R92. -/
  | aslAbs (w : Word)
  /-- `ASL $hhll,X`: R130, R93. -/
  | aslAbsx (w : Word)
  /-- `LSR A`: R131, R87. -/
  | lsrAcc
  /-- `LSR $nn`: R131, R89. -/
  | lsrZp (o : Byte)
  /-- `LSR $nn,X`: R131, R90. -/
  | lsrZpx (o : Byte)
  /-- `LSR $hhll`: R131, R92. -/
  | lsrAbs (w : Word)
  /-- `LSR $hhll,X`: R131, R93. -/
  | lsrAbsx (w : Word)
  /-- `ROL A`: R132, R87. -/
  | rolAcc
  /-- `ROL $nn`: R132, R89. -/
  | rolZp (o : Byte)
  /-- `ROL $nn,X`: R132, R90. -/
  | rolZpx (o : Byte)
  /-- `ROL $hhll`: R132, R92. -/
  | rolAbs (w : Word)
  /-- `ROL $hhll,X`: R132, R93. -/
  | rolAbsx (w : Word)
  /-- `ROR A`: R133, R87. -/
  | rorAcc
  /-- `ROR $nn`: R133, R89. -/
  | rorZp (o : Byte)
  /-- `ROR $nn,X`: R133, R90. -/
  | rorZpx (o : Byte)
  /-- `ROR $hhll`: R133, R92. -/
  | rorAbs (w : Word)
  /-- `ROR $hhll,X`: R133, R93. -/
  | rorAbsx (w : Word)
  -- 46_load_store_transfer.md: loads, stores, transfers
  /-- `LDA #$nn`: R140, R88. -/
  | ldaImm (m : Byte)
  /-- `LDA $nn`: R140, R89. -/
  | ldaZp (o : Byte)
  /-- `LDA $nn,X`: R140, R90. -/
  | ldaZpx (o : Byte)
  /-- `LDA $hhll`: R140, R92. -/
  | ldaAbs (w : Word)
  /-- `LDA $hhll,X`: R140, R93. -/
  | ldaAbsx (w : Word)
  /-- `LDA $hhll,Y`: R140, R94. -/
  | ldaAbsy (w : Word)
  /-- `LDA ($nn,X)`: R140, R95. -/
  | ldaIndx (o : Byte)
  /-- `LDA ($nn),Y`: R140, R96. -/
  | ldaIndy (o : Byte)
  /-- `LDX #$nn`: R141, R88. -/
  | ldxImm (m : Byte)
  /-- `LDX $nn`: R141, R89. -/
  | ldxZp (o : Byte)
  /-- `LDX $nn,Y`: R141, R91. -/
  | ldxZpy (o : Byte)
  /-- `LDX $hhll`: R141, R92. -/
  | ldxAbs (w : Word)
  /-- `LDX $hhll,Y`: R141, R94. -/
  | ldxAbsy (w : Word)
  /-- `LDY #$nn`: R142, R88. -/
  | ldyImm (m : Byte)
  /-- `LDY $nn`: R142, R89. -/
  | ldyZp (o : Byte)
  /-- `LDY $nn,X`: R142, R90. -/
  | ldyZpx (o : Byte)
  /-- `LDY $hhll`: R142, R92. -/
  | ldyAbs (w : Word)
  /-- `LDY $hhll,X`: R142, R93. -/
  | ldyAbsx (w : Word)
  /-- `STA $nn`: R143, R89. -/
  | staZp (o : Byte)
  /-- `STA $nn,X`: R143, R90. -/
  | staZpx (o : Byte)
  /-- `STA $hhll`: R143, R92. -/
  | staAbs (w : Word)
  /-- `STA $hhll,X`: R143, R93. -/
  | staAbsx (w : Word)
  /-- `STA $hhll,Y`: R143, R94. -/
  | staAbsy (w : Word)
  /-- `STA ($nn,X)`: R143, R95. -/
  | staIndx (o : Byte)
  /-- `STA ($nn),Y`: R143, R96. -/
  | staIndy (o : Byte)
  /-- `STX $nn`: R144, R89. -/
  | stxZp (o : Byte)
  /-- `STX $nn,Y`: R144, R91. -/
  | stxZpy (o : Byte)
  /-- `STX $hhll`: R144, R92. -/
  | stxAbs (w : Word)
  /-- `STY $nn`: R145, R89. -/
  | styZp (o : Byte)
  /-- `STY $nn,X`: R145, R90. -/
  | styZpx (o : Byte)
  /-- `STY $hhll`: R145, R92. -/
  | styAbs (w : Word)
  /-- `TAX`: R146, R86. -/
  | tax
  /-- `TAY`: R147, R86. -/
  | tay
  /-- `TXA`: R148, R86. -/
  | txa
  /-- `TYA`: R149, R86. -/
  | tya
  /-- `TSX`: R150, R86. -/
  | tsx
  /-- `TXS`: R151, R86. -/
  | txs
  -- 47_control_transfer.md: jumps, branches, subroutines
  /-- `JMP $hhll`: R160, R92. -/
  | jmpAbs (target : Word)
  /-- `JMP ($hhll)`: R161, R97. -/
  | jmpInd (ptr : Word)
  /-- `BCC $hhll (target)`: R163, R98. -/
  | bcc (off : Byte)
  /-- `BCS $hhll (target)`: R164, R98. -/
  | bcs (off : Byte)
  /-- `BEQ $hhll (target)`: R165, R98. -/
  | beq (off : Byte)
  /-- `BNE $hhll (target)`: R166, R98. -/
  | bne (off : Byte)
  /-- `BMI $hhll (target)`: R167, R98. -/
  | bmi (off : Byte)
  /-- `BPL $hhll (target)`: R168, R98. -/
  | bpl (off : Byte)
  /-- `BVC $hhll (target)`: R169, R98. -/
  | bvc (off : Byte)
  /-- `BVS $hhll (target)`: R170, R98. -/
  | bvs (off : Byte)
  /-- `JSR $hhll`: R171, R92. -/
  | jsr (target : Word)
  /-- `RTS`: R172, R86. -/
  | rts
  -- 48_stack_flags_nop.md: stack, flags, no operation
  /-- `PHA`: R180, R86. -/
  | pha
  /-- `PHP`: R181, R86. -/
  | php
  /-- `PLA`: R182, R86. -/
  | pla
  /-- `PLP`: R183, R86. -/
  | plp
  /-- `CLC`: R184, R86. -/
  | clc
  /-- `SEC`: R185, R86. -/
  | sec
  /-- `CLI`: R186, R86. -/
  | cli
  /-- `SEI`: R187, R86. -/
  | sei
  /-- `CLV`: R188, R86. -/
  | clv
  /-- `CLD`: R189, R86. -/
  | cld
  /-- `SED`: R190, R86. -/
  | sed
  /-- `NOP`: R191, R86. -/
  | nop
  -- 49_halting.md: BRK
  /-- `BRK`: R200, R86. -/
  | brk
  deriving DecidableEq, Repr

/-- The thirteen operand forms (R51, R85), under the spec's tags. -/
inductive Mode where
  | imp
  | acc
  | imm
  | zp
  | zpx
  | zpy
  | abs
  | absx
  | absy
  | indx
  | indy
  | ind
  | rel
  deriving DecidableEq, Repr

/-- The operand bytes that follow the opcode in each form (R51). -/
def Mode.operandBytes : Mode → Nat
  | .imp => 0
  | .acc => 0
  | .imm => 1
  | .zp => 1
  | .zpx => 1
  | .zpy => 1
  | .abs => 2
  | .absx => 2
  | .absy => 2
  | .indx => 1
  | .indy => 1
  | .ind => 2
  | .rel => 1

/-- The 55 operations (R53). -/
inductive Op where
  | and | eor | ora | bit | cmp | cpx | cpy
  | inc | dec | inx | iny | dex | dey
  | adc | sbc
  | asl | lsr | rol | ror
  | lda | ldx | ldy | sta | stx | sty | tax | tay | txa | tya | tsx | txs
  | jmp | bcc | bcs | beq | bne | bmi | bpl | bvc | bvs | jsr | rts
  | pha | php | pla | plp | clc | sec | cli | sei | clv | cld | sed | nop
  | brk
  deriving DecidableEq, Repr

/-- A raw operand: no byte, one byte, or two bytes as a word (R52, R70). -/
inductive Operand where
  | absent
  | byte (o : Byte)
  | word (w : Word)
  deriving DecidableEq, Repr

/-- An instruction as the decoder's pair (operation, addressing mode) of R72 with its raw operand. -/
structure View where
  op : Op
  mode : Mode
  operand : Operand
  deriving DecidableEq, Repr

end Sys2Proof
end

