-- ==== Sys2Proof/Config.lean ====
section
/-! DEFINITION. The implementation parameters of 00_scope.md R5, each at the value of this hardware.
`DECIMAL_MODE`, `HAS_RTI` and `HAS_INTERRUPTS` are false here and the spec gives no semantics for true
(44_add_subtract.md R123, 49_halting.md R202, 60_exceptions.md R216), so nothing branches on them and they have no
constant. `STEP_BOUND` (default none) is the argument of `hostRun` in Machine/HostOps.lean.
There is no free value: 93_implementation_defined.md lists no behaviour as `any value`. -/

namespace Sys2Proof.Config

/-- R5 `RESET_PC`: PC after reset, 0x0400 (10_state.md R21, 92_eei_decisions.md D11). -/
def resetPc : Word := 0x0400

/-- R5 `RESET_SP`: SP after reset, 0xFF (10_state.md R21). -/
def resetSp : Byte := 0xFF

/-- R5 `STACK_BASE`: base of the stack page, 0x0100 (10_state.md R12). -/
def stackBase : Word := 0x0100

/-- R5 `MEM_SIZE`: the number of byte locations. -/
def memSize : Nat := 65536

/-- R5 `MEM_INIT`: what a location nothing has written reads as, 0x00 (20_memory.md R41). -/
def memInit : Byte := 0x00

/-- R5 `JMP_IND_PAGE_WRAP`: `JMP (ind)` keeps inside the pointer's page (41_addressing_modes.md R97,
92_eei_decisions.md D7). -/
def jmpIndPageWrap : Bool := true

/-- R5 `ZP_POINTER_WRAP`: a zero-page pointer at 0xFF takes its high byte from 0x0000 (41_addressing_modes.md
R95, R96, 92_eei_decisions.md D6). -/
def zpPointerWrap : Bool := true

end Sys2Proof.Config
end

