-- ==== Sys2Proof/WellFormed.lean ====
section
/-! DEFINITION. What is well-formed before it reaches the machine. An instruction of `Instr` always is: its operand is
a whole byte or a whole word by type (30_encoding.md R52), and a mnemonic has a constructor only for the operand forms
Table A of R53 gives it. A `load` request is well-formed when it stays inside the address space
(70_reset_and_hazards.md R233). -/

namespace Sys2Proof

/-- Every instruction is well-formed: R52 leaves no operand value out and R53 no form that has a constructor. -/
def Instr.wellFormed (_ : Instr) : Bool :=
  true

/-- A `load(addr, bytes)` of the host (R233). -/
structure LoadRequest where
  addr : Word
  bytes : List Byte
  deriving DecidableEq, Repr

/-- The precondition of R233: `addr + len(bytes) <= 65536`. -/
def LoadRequest.wellFormed (r : LoadRequest) : Bool :=
  decide (r.addr.toNat + r.bytes.length ≤ Config.memSize)

end Sys2Proof
end

