-- ==== Sys2Proof/Decode.lean ====
section
/-! DEFINITION. The decoder (40_step_fetch_decode.md R72; 30_encoding.md R50 to R55): the opcode map as Table B of R53
lays it out, by opcode byte; decoding of a byte sequence, total, rejecting by name; and the encoder, written from
Table A, by mnemonic. -/

namespace Sys2Proof

/-! ### Words and bytes -/

/-- `hi8:lo8`, the word with these two bytes (00_scope.md section 6, R33). -/
def wordOf (hi lo : Byte) : Word :=
  hi ++ lo

/-- `w[7:0]`. -/
def loByte (w : Word) : Byte :=
  w.extractLsb' 0 8

/-- `w[15:8]`. -/
def hiByte (w : Word) : Byte :=
  w.extractLsb' 8 8

/-! ### The opcode map, by opcode byte -/

/-- What an assigned opcode byte decodes to: an instruction that lacks zero, one or two operand bytes (R50). -/
inductive Row where
  | op0 (instr : Instr)
  | op1 (mk : Byte → Instr)
  | op2 (mk : Word → Instr)

/-- How many operand bytes the row still takes (R51). -/
def Row.operandBytes : Row → Nat
  | .op0 _ => 0
  | .op1 _ => 1
  | .op2 _ => 2

/-- Table B of R53, row 0x. -/
def opcodeRow0 : List (Byte × Row) :=
  [(0x00, .op0 .brk), (0x01, .op1 .oraIndx), (0x05, .op1 .oraZp), (0x06, .op1 .aslZp), (0x08, .op0 .php),
   (0x09, .op1 .oraImm), (0x0A, .op0 .aslAcc), (0x0D, .op2 .oraAbs), (0x0E, .op2 .aslAbs)]

/-- Table B of R53, row 1x. -/
def opcodeRow1 : List (Byte × Row) :=
  [(0x10, .op1 .bpl), (0x11, .op1 .oraIndy), (0x15, .op1 .oraZpx), (0x16, .op1 .aslZpx), (0x18, .op0 .clc),
   (0x19, .op2 .oraAbsy), (0x1D, .op2 .oraAbsx), (0x1E, .op2 .aslAbsx)]

/-- Table B of R53, row 2x. -/
def opcodeRow2 : List (Byte × Row) :=
  [(0x20, .op2 .jsr), (0x21, .op1 .andIndx), (0x24, .op1 .bitZp), (0x25, .op1 .andZp), (0x26, .op1 .rolZp),
   (0x28, .op0 .plp), (0x29, .op1 .andImm), (0x2A, .op0 .rolAcc), (0x2C, .op2 .bitAbs), (0x2D, .op2 .andAbs),
   (0x2E, .op2 .rolAbs)]

/-- Table B of R53, row 3x. -/
def opcodeRow3 : List (Byte × Row) :=
  [(0x30, .op1 .bmi), (0x31, .op1 .andIndy), (0x35, .op1 .andZpx), (0x36, .op1 .rolZpx), (0x38, .op0 .sec),
   (0x39, .op2 .andAbsy), (0x3D, .op2 .andAbsx), (0x3E, .op2 .rolAbsx)]

/-- Table B of R53, row 4x. -/
def opcodeRow4 : List (Byte × Row) :=
  [(0x41, .op1 .eorIndx), (0x45, .op1 .eorZp), (0x46, .op1 .lsrZp), (0x48, .op0 .pha), (0x49, .op1 .eorImm),
   (0x4A, .op0 .lsrAcc), (0x4C, .op2 .jmpAbs), (0x4D, .op2 .eorAbs), (0x4E, .op2 .lsrAbs)]

/-- Table B of R53, row 5x. -/
def opcodeRow5 : List (Byte × Row) :=
  [(0x50, .op1 .bvc), (0x51, .op1 .eorIndy), (0x55, .op1 .eorZpx), (0x56, .op1 .lsrZpx), (0x58, .op0 .cli),
   (0x59, .op2 .eorAbsy), (0x5D, .op2 .eorAbsx), (0x5E, .op2 .lsrAbsx)]

/-- Table B of R53, row 6x. -/
def opcodeRow6 : List (Byte × Row) :=
  [(0x60, .op0 .rts), (0x61, .op1 .adcIndx), (0x65, .op1 .adcZp), (0x66, .op1 .rorZp), (0x68, .op0 .pla),
   (0x69, .op1 .adcImm), (0x6A, .op0 .rorAcc), (0x6C, .op2 .jmpInd), (0x6D, .op2 .adcAbs),
   (0x6E, .op2 .rorAbs)]

/-- Table B of R53, row 7x. -/
def opcodeRow7 : List (Byte × Row) :=
  [(0x70, .op1 .bvs), (0x71, .op1 .adcIndy), (0x75, .op1 .adcZpx), (0x76, .op1 .rorZpx), (0x78, .op0 .sei),
   (0x79, .op2 .adcAbsy), (0x7D, .op2 .adcAbsx), (0x7E, .op2 .rorAbsx)]

/-- Table B of R53, row 8x. -/
def opcodeRow8 : List (Byte × Row) :=
  [(0x81, .op1 .staIndx), (0x84, .op1 .styZp), (0x85, .op1 .staZp), (0x86, .op1 .stxZp), (0x88, .op0 .dey),
   (0x8A, .op0 .txa), (0x8C, .op2 .styAbs), (0x8D, .op2 .staAbs), (0x8E, .op2 .stxAbs)]

/-- Table B of R53, row 9x. -/
def opcodeRow9 : List (Byte × Row) :=
  [(0x90, .op1 .bcc), (0x91, .op1 .staIndy), (0x94, .op1 .styZpx), (0x95, .op1 .staZpx), (0x96, .op1 .stxZpy),
   (0x98, .op0 .tya), (0x99, .op2 .staAbsy), (0x9A, .op0 .txs), (0x9D, .op2 .staAbsx)]

/-- Table B of R53, row Ax. -/
def opcodeRowA : List (Byte × Row) :=
  [(0xA0, .op1 .ldyImm), (0xA1, .op1 .ldaIndx), (0xA2, .op1 .ldxImm), (0xA4, .op1 .ldyZp), (0xA5, .op1 .ldaZp),
   (0xA6, .op1 .ldxZp), (0xA8, .op0 .tay), (0xA9, .op1 .ldaImm), (0xAA, .op0 .tax), (0xAC, .op2 .ldyAbs),
   (0xAD, .op2 .ldaAbs), (0xAE, .op2 .ldxAbs)]

/-- Table B of R53, row Bx. -/
def opcodeRowB : List (Byte × Row) :=
  [(0xB0, .op1 .bcs), (0xB1, .op1 .ldaIndy), (0xB4, .op1 .ldyZpx), (0xB5, .op1 .ldaZpx), (0xB6, .op1 .ldxZpy),
   (0xB8, .op0 .clv), (0xB9, .op2 .ldaAbsy), (0xBA, .op0 .tsx), (0xBC, .op2 .ldyAbsx), (0xBD, .op2 .ldaAbsx),
   (0xBE, .op2 .ldxAbsy)]

/-- Table B of R53, row Cx. -/
def opcodeRowC : List (Byte × Row) :=
  [(0xC0, .op1 .cpyImm), (0xC1, .op1 .cmpIndx), (0xC4, .op1 .cpyZp), (0xC5, .op1 .cmpZp), (0xC6, .op1 .decZp),
   (0xC8, .op0 .iny), (0xC9, .op1 .cmpImm), (0xCA, .op0 .dex), (0xCC, .op2 .cpyAbs), (0xCD, .op2 .cmpAbs),
   (0xCE, .op2 .decAbs)]

/-- Table B of R53, row Dx. -/
def opcodeRowD : List (Byte × Row) :=
  [(0xD0, .op1 .bne), (0xD1, .op1 .cmpIndy), (0xD5, .op1 .cmpZpx), (0xD6, .op1 .decZpx), (0xD8, .op0 .cld),
   (0xD9, .op2 .cmpAbsy), (0xDD, .op2 .cmpAbsx), (0xDE, .op2 .decAbsx)]

/-- Table B of R53, row Ex. -/
def opcodeRowE : List (Byte × Row) :=
  [(0xE0, .op1 .cpxImm), (0xE1, .op1 .sbcIndx), (0xE4, .op1 .cpxZp), (0xE5, .op1 .sbcZp), (0xE6, .op1 .incZp),
   (0xE8, .op0 .inx), (0xE9, .op1 .sbcImm), (0xEA, .op0 .nop), (0xEC, .op2 .cpxAbs), (0xED, .op2 .sbcAbs),
   (0xEE, .op2 .incAbs)]

/-- Table B of R53, row Fx. -/
def opcodeRowF : List (Byte × Row) :=
  [(0xF0, .op1 .beq), (0xF1, .op1 .sbcIndy), (0xF5, .op1 .sbcZpx), (0xF6, .op1 .incZpx), (0xF8, .op0 .sed),
   (0xF9, .op2 .sbcAbsy), (0xFD, .op2 .sbcAbsx), (0xFE, .op2 .incAbsx)]

/-- The opcode map of R53: 150 rows, all other bytes unassigned (R54). -/
def opcodeMap : List (Byte × Row) :=
  opcodeRow0 ++ opcodeRow1 ++ opcodeRow2 ++ opcodeRow3 ++ opcodeRow4 ++ opcodeRow5 ++ opcodeRow6 ++ opcodeRow7 ++
    opcodeRow8 ++ opcodeRow9 ++ opcodeRowA ++ opcodeRowB ++ opcodeRowC ++ opcodeRowD ++ opcodeRowE ++ opcodeRowF

/-- The decoder of R72: a function of the opcode byte alone, `none` for an unassigned byte (R54). -/
def decodeOpcode (opcode : Byte) : Option Row :=
  (opcodeMap.find? fun entry => entry.1 == opcode).map Prod.snd

/-! ### Decoding a byte sequence -/

/-- Why a byte sequence is no instruction. -/
inductive DecodeError where
  /-- The opcode byte has no decoding rule (R54, R201). -/
  | unassigned (opcode : Byte)
  /-- The sequence ends before the instruction does (R51). -/
  | truncated
  deriving DecidableEq, Repr

/-- Read one instruction and answer it with the bytes that follow it (R50 to R52): opcode, then the operand, low byte
first. -/
def decodeBytes : List Byte → Except DecodeError (Instr × List Byte)
  | [] => .error .truncated
  | opcode :: rest =>
    match decodeOpcode opcode, rest with
    | none, _ => .error (.unassigned opcode)
    | some (.op0 instr), _ => .ok (instr, rest)
    | some (.op1 mk), o :: rest' => .ok (mk o, rest')
    | some (.op2 mk), lo :: hi :: rest' => .ok (mk (wordOf hi lo), rest')
    | some _, _ => .error .truncated

/-- The byte `k` of a table word: bits `8k+7 .. 8k`, and 0 above the word's `nbits`. -/
def tableByte (nbits w k : Nat) : Byte :=
  BitVec.ofNat 8 ((w % 2 ^ nbits) >>> (8 * k))

/-- The instruction the decoder reads from the bits `w` of an opcode-table row, the first byte in bits 7..0 (R50). -/
def decodeTableWord (nbits w : Nat) : Option Instr :=
  match decodeBytes [tableByte nbits w 0, tableByte nbits w 1, tableByte nbits w 2] with
  | .ok (instr, _) => some instr
  | .error _ => none

/-! ### The encoder, by mnemonic -/

/-- The bytes of an instruction in address order, from Table A of R53 and the formats of R50. -/
def encode : Instr → List Byte
  | .andImm m => [0x29, m]
  | .andZp o => [0x25, o]
  | .andZpx o => [0x35, o]
  | .andAbs w => [0x2D, loByte w, hiByte w]
  | .andAbsx w => [0x3D, loByte w, hiByte w]
  | .andAbsy w => [0x39, loByte w, hiByte w]
  | .andIndx o => [0x21, o]
  | .andIndy o => [0x31, o]
  | .eorImm m => [0x49, m]
  | .eorZp o => [0x45, o]
  | .eorZpx o => [0x55, o]
  | .eorAbs w => [0x4D, loByte w, hiByte w]
  | .eorAbsx w => [0x5D, loByte w, hiByte w]
  | .eorAbsy w => [0x59, loByte w, hiByte w]
  | .eorIndx o => [0x41, o]
  | .eorIndy o => [0x51, o]
  | .oraImm m => [0x09, m]
  | .oraZp o => [0x05, o]
  | .oraZpx o => [0x15, o]
  | .oraAbs w => [0x0D, loByte w, hiByte w]
  | .oraAbsx w => [0x1D, loByte w, hiByte w]
  | .oraAbsy w => [0x19, loByte w, hiByte w]
  | .oraIndx o => [0x01, o]
  | .oraIndy o => [0x11, o]
  | .bitZp o => [0x24, o]
  | .bitAbs w => [0x2C, loByte w, hiByte w]
  | .cmpImm m => [0xC9, m]
  | .cmpZp o => [0xC5, o]
  | .cmpZpx o => [0xD5, o]
  | .cmpAbs w => [0xCD, loByte w, hiByte w]
  | .cmpAbsx w => [0xDD, loByte w, hiByte w]
  | .cmpAbsy w => [0xD9, loByte w, hiByte w]
  | .cmpIndx o => [0xC1, o]
  | .cmpIndy o => [0xD1, o]
  | .cpxImm m => [0xE0, m]
  | .cpxZp o => [0xE4, o]
  | .cpxAbs w => [0xEC, loByte w, hiByte w]
  | .cpyImm m => [0xC0, m]
  | .cpyZp o => [0xC4, o]
  | .cpyAbs w => [0xCC, loByte w, hiByte w]
  | .incZp o => [0xE6, o]
  | .incZpx o => [0xF6, o]
  | .incAbs w => [0xEE, loByte w, hiByte w]
  | .incAbsx w => [0xFE, loByte w, hiByte w]
  | .decZp o => [0xC6, o]
  | .decZpx o => [0xD6, o]
  | .decAbs w => [0xCE, loByte w, hiByte w]
  | .decAbsx w => [0xDE, loByte w, hiByte w]
  | .inx => [0xE8]
  | .iny => [0xC8]
  | .dex => [0xCA]
  | .dey => [0x88]
  | .adcImm m => [0x69, m]
  | .adcZp o => [0x65, o]
  | .adcZpx o => [0x75, o]
  | .adcAbs w => [0x6D, loByte w, hiByte w]
  | .adcAbsx w => [0x7D, loByte w, hiByte w]
  | .adcAbsy w => [0x79, loByte w, hiByte w]
  | .adcIndx o => [0x61, o]
  | .adcIndy o => [0x71, o]
  | .sbcImm m => [0xE9, m]
  | .sbcZp o => [0xE5, o]
  | .sbcZpx o => [0xF5, o]
  | .sbcAbs w => [0xED, loByte w, hiByte w]
  | .sbcAbsx w => [0xFD, loByte w, hiByte w]
  | .sbcAbsy w => [0xF9, loByte w, hiByte w]
  | .sbcIndx o => [0xE1, o]
  | .sbcIndy o => [0xF1, o]
  | .aslAcc => [0x0A]
  | .aslZp o => [0x06, o]
  | .aslZpx o => [0x16, o]
  | .aslAbs w => [0x0E, loByte w, hiByte w]
  | .aslAbsx w => [0x1E, loByte w, hiByte w]
  | .lsrAcc => [0x4A]
  | .lsrZp o => [0x46, o]
  | .lsrZpx o => [0x56, o]
  | .lsrAbs w => [0x4E, loByte w, hiByte w]
  | .lsrAbsx w => [0x5E, loByte w, hiByte w]
  | .rolAcc => [0x2A]
  | .rolZp o => [0x26, o]
  | .rolZpx o => [0x36, o]
  | .rolAbs w => [0x2E, loByte w, hiByte w]
  | .rolAbsx w => [0x3E, loByte w, hiByte w]
  | .rorAcc => [0x6A]
  | .rorZp o => [0x66, o]
  | .rorZpx o => [0x76, o]
  | .rorAbs w => [0x6E, loByte w, hiByte w]
  | .rorAbsx w => [0x7E, loByte w, hiByte w]
  | .ldaImm m => [0xA9, m]
  | .ldaZp o => [0xA5, o]
  | .ldaZpx o => [0xB5, o]
  | .ldaAbs w => [0xAD, loByte w, hiByte w]
  | .ldaAbsx w => [0xBD, loByte w, hiByte w]
  | .ldaAbsy w => [0xB9, loByte w, hiByte w]
  | .ldaIndx o => [0xA1, o]
  | .ldaIndy o => [0xB1, o]
  | .ldxImm m => [0xA2, m]
  | .ldxZp o => [0xA6, o]
  | .ldxZpy o => [0xB6, o]
  | .ldxAbs w => [0xAE, loByte w, hiByte w]
  | .ldxAbsy w => [0xBE, loByte w, hiByte w]
  | .ldyImm m => [0xA0, m]
  | .ldyZp o => [0xA4, o]
  | .ldyZpx o => [0xB4, o]
  | .ldyAbs w => [0xAC, loByte w, hiByte w]
  | .ldyAbsx w => [0xBC, loByte w, hiByte w]
  | .staZp o => [0x85, o]
  | .staZpx o => [0x95, o]
  | .staAbs w => [0x8D, loByte w, hiByte w]
  | .staAbsx w => [0x9D, loByte w, hiByte w]
  | .staAbsy w => [0x99, loByte w, hiByte w]
  | .staIndx o => [0x81, o]
  | .staIndy o => [0x91, o]
  | .stxZp o => [0x86, o]
  | .stxZpy o => [0x96, o]
  | .stxAbs w => [0x8E, loByte w, hiByte w]
  | .styZp o => [0x84, o]
  | .styZpx o => [0x94, o]
  | .styAbs w => [0x8C, loByte w, hiByte w]
  | .tax => [0xAA]
  | .tay => [0xA8]
  | .txa => [0x8A]
  | .tya => [0x98]
  | .tsx => [0xBA]
  | .txs => [0x9A]
  | .jmpAbs target => [0x4C, loByte target, hiByte target]
  | .jmpInd ptr => [0x6C, loByte ptr, hiByte ptr]
  | .bcc off => [0x90, off]
  | .bcs off => [0xB0, off]
  | .beq off => [0xF0, off]
  | .bne off => [0xD0, off]
  | .bmi off => [0x30, off]
  | .bpl off => [0x10, off]
  | .bvc off => [0x50, off]
  | .bvs off => [0x70, off]
  | .jsr target => [0x20, loByte target, hiByte target]
  | .rts => [0x60]
  | .pha => [0x48]
  | .php => [0x08]
  | .pla => [0x68]
  | .plp => [0x28]
  | .clc => [0x18]
  | .sec => [0x38]
  | .cli => [0x58]
  | .sei => [0x78]
  | .clv => [0xB8]
  | .cld => [0xD8]
  | .sed => [0xF8]
  | .nop => [0xEA]
  | .brk => [0x00]

/-! ### Operation, operand form and operand -/

/-- The pair (operation, addressing mode) that the instruction's opcode selects (R72, Table A of R53), with the raw
operand. -/
def Instr.view : Instr → View
  | .andImm m => ⟨.and, .imm, .byte m⟩
  | .andZp o => ⟨.and, .zp, .byte o⟩
  | .andZpx o => ⟨.and, .zpx, .byte o⟩
  | .andAbs w => ⟨.and, .abs, .word w⟩
  | .andAbsx w => ⟨.and, .absx, .word w⟩
  | .andAbsy w => ⟨.and, .absy, .word w⟩
  | .andIndx o => ⟨.and, .indx, .byte o⟩
  | .andIndy o => ⟨.and, .indy, .byte o⟩
  | .eorImm m => ⟨.eor, .imm, .byte m⟩
  | .eorZp o => ⟨.eor, .zp, .byte o⟩
  | .eorZpx o => ⟨.eor, .zpx, .byte o⟩
  | .eorAbs w => ⟨.eor, .abs, .word w⟩
  | .eorAbsx w => ⟨.eor, .absx, .word w⟩
  | .eorAbsy w => ⟨.eor, .absy, .word w⟩
  | .eorIndx o => ⟨.eor, .indx, .byte o⟩
  | .eorIndy o => ⟨.eor, .indy, .byte o⟩
  | .oraImm m => ⟨.ora, .imm, .byte m⟩
  | .oraZp o => ⟨.ora, .zp, .byte o⟩
  | .oraZpx o => ⟨.ora, .zpx, .byte o⟩
  | .oraAbs w => ⟨.ora, .abs, .word w⟩
  | .oraAbsx w => ⟨.ora, .absx, .word w⟩
  | .oraAbsy w => ⟨.ora, .absy, .word w⟩
  | .oraIndx o => ⟨.ora, .indx, .byte o⟩
  | .oraIndy o => ⟨.ora, .indy, .byte o⟩
  | .bitZp o => ⟨.bit, .zp, .byte o⟩
  | .bitAbs w => ⟨.bit, .abs, .word w⟩
  | .cmpImm m => ⟨.cmp, .imm, .byte m⟩
  | .cmpZp o => ⟨.cmp, .zp, .byte o⟩
  | .cmpZpx o => ⟨.cmp, .zpx, .byte o⟩
  | .cmpAbs w => ⟨.cmp, .abs, .word w⟩
  | .cmpAbsx w => ⟨.cmp, .absx, .word w⟩
  | .cmpAbsy w => ⟨.cmp, .absy, .word w⟩
  | .cmpIndx o => ⟨.cmp, .indx, .byte o⟩
  | .cmpIndy o => ⟨.cmp, .indy, .byte o⟩
  | .cpxImm m => ⟨.cpx, .imm, .byte m⟩
  | .cpxZp o => ⟨.cpx, .zp, .byte o⟩
  | .cpxAbs w => ⟨.cpx, .abs, .word w⟩
  | .cpyImm m => ⟨.cpy, .imm, .byte m⟩
  | .cpyZp o => ⟨.cpy, .zp, .byte o⟩
  | .cpyAbs w => ⟨.cpy, .abs, .word w⟩
  | .incZp o => ⟨.inc, .zp, .byte o⟩
  | .incZpx o => ⟨.inc, .zpx, .byte o⟩
  | .incAbs w => ⟨.inc, .abs, .word w⟩
  | .incAbsx w => ⟨.inc, .absx, .word w⟩
  | .decZp o => ⟨.dec, .zp, .byte o⟩
  | .decZpx o => ⟨.dec, .zpx, .byte o⟩
  | .decAbs w => ⟨.dec, .abs, .word w⟩
  | .decAbsx w => ⟨.dec, .absx, .word w⟩
  | .inx => ⟨.inx, .imp, .absent⟩
  | .iny => ⟨.iny, .imp, .absent⟩
  | .dex => ⟨.dex, .imp, .absent⟩
  | .dey => ⟨.dey, .imp, .absent⟩
  | .adcImm m => ⟨.adc, .imm, .byte m⟩
  | .adcZp o => ⟨.adc, .zp, .byte o⟩
  | .adcZpx o => ⟨.adc, .zpx, .byte o⟩
  | .adcAbs w => ⟨.adc, .abs, .word w⟩
  | .adcAbsx w => ⟨.adc, .absx, .word w⟩
  | .adcAbsy w => ⟨.adc, .absy, .word w⟩
  | .adcIndx o => ⟨.adc, .indx, .byte o⟩
  | .adcIndy o => ⟨.adc, .indy, .byte o⟩
  | .sbcImm m => ⟨.sbc, .imm, .byte m⟩
  | .sbcZp o => ⟨.sbc, .zp, .byte o⟩
  | .sbcZpx o => ⟨.sbc, .zpx, .byte o⟩
  | .sbcAbs w => ⟨.sbc, .abs, .word w⟩
  | .sbcAbsx w => ⟨.sbc, .absx, .word w⟩
  | .sbcAbsy w => ⟨.sbc, .absy, .word w⟩
  | .sbcIndx o => ⟨.sbc, .indx, .byte o⟩
  | .sbcIndy o => ⟨.sbc, .indy, .byte o⟩
  | .aslAcc => ⟨.asl, .acc, .absent⟩
  | .aslZp o => ⟨.asl, .zp, .byte o⟩
  | .aslZpx o => ⟨.asl, .zpx, .byte o⟩
  | .aslAbs w => ⟨.asl, .abs, .word w⟩
  | .aslAbsx w => ⟨.asl, .absx, .word w⟩
  | .lsrAcc => ⟨.lsr, .acc, .absent⟩
  | .lsrZp o => ⟨.lsr, .zp, .byte o⟩
  | .lsrZpx o => ⟨.lsr, .zpx, .byte o⟩
  | .lsrAbs w => ⟨.lsr, .abs, .word w⟩
  | .lsrAbsx w => ⟨.lsr, .absx, .word w⟩
  | .rolAcc => ⟨.rol, .acc, .absent⟩
  | .rolZp o => ⟨.rol, .zp, .byte o⟩
  | .rolZpx o => ⟨.rol, .zpx, .byte o⟩
  | .rolAbs w => ⟨.rol, .abs, .word w⟩
  | .rolAbsx w => ⟨.rol, .absx, .word w⟩
  | .rorAcc => ⟨.ror, .acc, .absent⟩
  | .rorZp o => ⟨.ror, .zp, .byte o⟩
  | .rorZpx o => ⟨.ror, .zpx, .byte o⟩
  | .rorAbs w => ⟨.ror, .abs, .word w⟩
  | .rorAbsx w => ⟨.ror, .absx, .word w⟩
  | .ldaImm m => ⟨.lda, .imm, .byte m⟩
  | .ldaZp o => ⟨.lda, .zp, .byte o⟩
  | .ldaZpx o => ⟨.lda, .zpx, .byte o⟩
  | .ldaAbs w => ⟨.lda, .abs, .word w⟩
  | .ldaAbsx w => ⟨.lda, .absx, .word w⟩
  | .ldaAbsy w => ⟨.lda, .absy, .word w⟩
  | .ldaIndx o => ⟨.lda, .indx, .byte o⟩
  | .ldaIndy o => ⟨.lda, .indy, .byte o⟩
  | .ldxImm m => ⟨.ldx, .imm, .byte m⟩
  | .ldxZp o => ⟨.ldx, .zp, .byte o⟩
  | .ldxZpy o => ⟨.ldx, .zpy, .byte o⟩
  | .ldxAbs w => ⟨.ldx, .abs, .word w⟩
  | .ldxAbsy w => ⟨.ldx, .absy, .word w⟩
  | .ldyImm m => ⟨.ldy, .imm, .byte m⟩
  | .ldyZp o => ⟨.ldy, .zp, .byte o⟩
  | .ldyZpx o => ⟨.ldy, .zpx, .byte o⟩
  | .ldyAbs w => ⟨.ldy, .abs, .word w⟩
  | .ldyAbsx w => ⟨.ldy, .absx, .word w⟩
  | .staZp o => ⟨.sta, .zp, .byte o⟩
  | .staZpx o => ⟨.sta, .zpx, .byte o⟩
  | .staAbs w => ⟨.sta, .abs, .word w⟩
  | .staAbsx w => ⟨.sta, .absx, .word w⟩
  | .staAbsy w => ⟨.sta, .absy, .word w⟩
  | .staIndx o => ⟨.sta, .indx, .byte o⟩
  | .staIndy o => ⟨.sta, .indy, .byte o⟩
  | .stxZp o => ⟨.stx, .zp, .byte o⟩
  | .stxZpy o => ⟨.stx, .zpy, .byte o⟩
  | .stxAbs w => ⟨.stx, .abs, .word w⟩
  | .styZp o => ⟨.sty, .zp, .byte o⟩
  | .styZpx o => ⟨.sty, .zpx, .byte o⟩
  | .styAbs w => ⟨.sty, .abs, .word w⟩
  | .tax => ⟨.tax, .imp, .absent⟩
  | .tay => ⟨.tay, .imp, .absent⟩
  | .txa => ⟨.txa, .imp, .absent⟩
  | .tya => ⟨.tya, .imp, .absent⟩
  | .tsx => ⟨.tsx, .imp, .absent⟩
  | .txs => ⟨.txs, .imp, .absent⟩
  | .jmpAbs target => ⟨.jmp, .abs, .word target⟩
  | .jmpInd ptr => ⟨.jmp, .ind, .word ptr⟩
  | .bcc off => ⟨.bcc, .rel, .byte off⟩
  | .bcs off => ⟨.bcs, .rel, .byte off⟩
  | .beq off => ⟨.beq, .rel, .byte off⟩
  | .bne off => ⟨.bne, .rel, .byte off⟩
  | .bmi off => ⟨.bmi, .rel, .byte off⟩
  | .bpl off => ⟨.bpl, .rel, .byte off⟩
  | .bvc off => ⟨.bvc, .rel, .byte off⟩
  | .bvs off => ⟨.bvs, .rel, .byte off⟩
  | .jsr target => ⟨.jsr, .abs, .word target⟩
  | .rts => ⟨.rts, .imp, .absent⟩
  | .pha => ⟨.pha, .imp, .absent⟩
  | .php => ⟨.php, .imp, .absent⟩
  | .pla => ⟨.pla, .imp, .absent⟩
  | .plp => ⟨.plp, .imp, .absent⟩
  | .clc => ⟨.clc, .imp, .absent⟩
  | .sec => ⟨.sec, .imp, .absent⟩
  | .cli => ⟨.cli, .imp, .absent⟩
  | .sei => ⟨.sei, .imp, .absent⟩
  | .clv => ⟨.clv, .imp, .absent⟩
  | .cld => ⟨.cld, .imp, .absent⟩
  | .sed => ⟨.sed, .imp, .absent⟩
  | .nop => ⟨.nop, .imp, .absent⟩
  | .brk => ⟨.brk, .imp, .absent⟩

/-- The operation of an instruction. -/
def Instr.op (instr : Instr) : Op :=
  instr.view.op

/-- The operand form of an instruction. -/
def Instr.mode (instr : Instr) : Mode :=
  instr.view.mode

/-- The length of an instruction in bytes (R51). -/
def Instr.length (instr : Instr) : Nat :=
  1 + instr.mode.operandBytes

end Sys2Proof
end

