-- ==== Sys2Proof/Machine/State.lean ====
section
/-! DEFINITION. The state of the machine: the register file of 10_state.md R10 and the memory of 20_memory.md R30,
its reset value (R21, R41), and the reasons a step can stop (60_exceptions.md R210). -/

namespace Sys2Proof.Machine

/-- The 65536-byte RAM (R30, R32) as its listed cells: addresses strictly rising, none of them holding what an
unlisted address reads as (`Memory.wf`). -/
abbrev Memory := List Host.Cell

/-- Everything the spec gives the machine: R10's 55 bits of registers and flags, and the memory the core reads
and writes through its memory port (R31). The flags are independent booleans (R14); there is no hidden state
(R20). -/
structure State where
  /-- Program counter, the address of the next instruction byte (R11). -/
  pc : Word
  /-- Stack pointer, an offset into the stack page (R12). -/
  sp : Byte
  /-- Accumulator (R13). -/
  a : Byte
  /-- Index register X (R13). -/
  x : Byte
  /-- Index register Y (R13). -/
  y : Byte
  /-- Negative. -/
  n : Bool
  /-- Overflow. -/
  v : Bool
  /-- Break: stored, written by PLP only, read by no instruction (R14). -/
  b : Bool
  /-- Decimal mode: stored, no effect on arithmetic (R14, R123). -/
  d : Bool
  /-- Interrupt disable: stored, masks nothing (R14, R216). -/
  i : Bool
  /-- Zero. -/
  z : Bool
  /-- Carry. -/
  c : Bool
  /-- The RAM at the other end of the memory port (R31, R41). -/
  mem : Memory
  deriving DecidableEq, Repr

/-- The two halting conditions (R210, R212). Each carries the state at the moment of signalling, "notably `pc`
pointing at the offending byte" (R211), so that a run that halts has a last state to read. -/
inductive Fault where
  /-- `Break`: raised by BRK and by nothing else (R200). Safe: it is the outcome the spec names. -/
  | brk (halted : State)
  /-- `IllegalOpcode(b)`: raised by the decoder for the 106 unassigned opcode bytes and by nothing else (R201).
  Safe: it is the outcome the spec names. -/
  | illegalOpcode (opcode : Byte) (halted : State)
  deriving DecidableEq, Repr

/-- What the model turns away. No instruction is refused. -/
inductive Refusal where
  /-- Raised by an arm of `exec` that has no meaning yet; no arm raises it now. Safe: the machine stops. -/
  | notModelled (mnemonic : String)
  /-- Raised by the host operation `hostLoad` for a byte sequence that would pass 0xFFFF (R233, D16). Safe: the
  spec defines no result and directs that a model refuse the call. -/
  | loadPastEnd (addr : Word) (len : Nat)
  deriving DecidableEq, Repr

/-- The outcome of a step (R76): `next` is Ok, `fault` is one of the two halting conditions. -/
abbrev StepResult := Host.Outcome State Fault Refusal

/-- The state after power-on: the register file of R21 and an all-zero memory (R41, R232). -/
def State.reset : State where
  pc := Config.resetPc
  sp := Config.resetSp
  a := 0
  x := 0
  y := 0
  n := false
  v := false
  b := false
  d := false
  i := false
  z := false
  c := false
  mem := []

/-- The state a halting condition carries (R211). -/
def Fault.halted : Fault → State
  | .brk s => s
  | .illegalOpcode _ s => s

end Sys2Proof.Machine
end

