-- ==== Sys2Proof/Machine/Ops.lean ====
section
/-! DEFINITION. The named operations over memory and registers: the memory port (20_memory.md R31 to R34), the
stack (R38, R39), and signalling a halting condition (60_exceptions.md R210, R214). -/

namespace Sys2Proof.Machine

/-! ### The memory's cells -/

/-- What the location `a` holds: its listed byte, or `MEM_INIT` if nothing is listed (R41). -/
def Memory.readCell : Memory → Nat → Byte
  | [], _ => Config.memInit
  | (k, v) :: rest, a => if k = a then v else Memory.readCell rest a

/-- Put the cell `(a, v)` before the first listed address that lies above `a`. -/
def Memory.insertCell : Memory → Nat → Byte → Memory
  | [], a, v => [(a, v)]
  | (k, w) :: rest, a, v =>
    if a < k then (a, v) :: (k, w) :: rest else (k, w) :: Memory.insertCell rest a v

/-- Take every cell of address `a` out of the list. -/
def Memory.eraseCell (m : Memory) (a : Nat) : Memory :=
  m.filter fun cell => cell.1 != a

/-- Store `v` at `a`, keeping the canonical form: a location that holds `MEM_INIT` is not listed. -/
def Memory.writeCell (m : Memory) (a : Nat) (v : Byte) : Memory :=
  if v = Config.memInit then m.eraseCell a else (m.eraseCell a).insertCell a v

/-- The canonical form: addresses strictly rising and inside the address space, no listed byte equal to what an
unlisted location reads as. -/
abbrev Memory.wf (m : Memory) : Prop :=
  m.Pairwise (fun p q => p.1 < q.1) ∧ ∀ p ∈ m, p.1 < Config.memSize ∧ p.2 ≠ Config.memInit

/-! ### The memory port -/

/-- R31 `MemRead(addr, 1)`: the byte at `addr`, with no side effects. -/
def State.memRead (s : State) (addr : Word) : Byte :=
  s.mem.readCell addr.toNat

/-- R31 `MemWrite(addr, 1, v)`: store one byte. -/
def State.memWrite (s : State) (addr : Word) (v : Byte) : State :=
  { s with mem := s.mem.writeCell addr.toNat v }

/-- R33 `MemReadWord(addr)`: little-endian, the second address modulo 65536. -/
def State.memReadWord (s : State) (addr : Word) : Word :=
  wordOf (s.memRead (addr + 1)) (s.memRead addr)

/-- R34 `MemWriteWord(addr, w)`: the inverse of `memReadWord`. No instruction uses it. -/
def State.memWriteWord (s : State) (addr : Word) (w : Word) : State :=
  (s.memWrite addr (loByte w)).memWrite (addr + 1) (hiByte w)

/-- Store a byte sequence at consecutive addresses, modulo 65536 (R233 for a sequence that stays inside). -/
def State.memWriteBytes (s : State) (addr : Word) : List Byte → State
  | [] => s
  | v :: rest => State.memWriteBytes (s.memWrite addr v) (addr + 1) rest

/-! ### The stack -/

/-- R12: the address that the stack pointer `sp` denotes, `0x0100 + sp`. -/
def stackAddr (sp : Byte) : Word :=
  Config.stackBase + sp.setWidth 16

/-- R38 `Push(v)`: store at `0x0100 + SP`, then decrement SP modulo 256. -/
def State.push (s : State) (v : Byte) : State :=
  let stored := s.memWrite (stackAddr s.sp) v
  { stored with sp := s.sp - 1 }

/-- R38 `Pull()`: increment SP modulo 256, then read `0x0100 + SP`. -/
def State.pull (s : State) : Byte × State :=
  let raised := { s with sp := s.sp + 1 }
  (raised.memRead (stackAddr raised.sp), raised)

/-- R39 `PushWord(w)`: the high byte first. -/
def State.pushWord (s : State) (w : Word) : State :=
  (s.push (hiByte w)).push (loByte w)

/-- R39 `PullWord()`: the low byte first. -/
def State.pullWord (s : State) : Word × State :=
  let lo := s.pull
  let hi := lo.2.pull
  (wordOf hi.1 lo.1, hi.2)

/-! ### Halting conditions -/

/-- Taking a halting condition, the one shared operation (R200, R201, R214): PC, which the fetch has moved past
the opcode, is rolled back by one, nothing else changes, and the step ends with the condition. Nothing is saved and
no handler is entered. -/
def raiseCondition (condition : State → Fault) (s : State) : StepResult :=
  .fault (condition { s with pc := s.pc - 1 })

/-- Returning from a halting condition (R215, R79): there is nothing to restore, so the host resumes from the
state the condition carries. -/
def resumeFrom (f : Fault) : State :=
  f.halted

end Sys2Proof.Machine
end

