-- ==== Sys2Proof/Machine/Flags.lean ====
section
/-! DEFINITION. The ALU micro-operations and every flag computation of the spec: `SetNZ`, `Pack`, `Unpack`
(10_state.md R15 to R17), `Compare` (42_logic_bit_compare.md R107), BIT (R103), `AddWithCarry` (44_add_subtract.md
R120), and the pure transformations of a byte and a carry that the read-modify-write helper applies
(41_addressing_modes.md R99). -/

namespace Sys2Proof.Machine

/-- R17 `SetNZ(v)`: N is bit 7 of `v`, Z says whether `v` is 0. -/
def setNZ (v : Byte) (s : State) : State :=
  { s with n := v.getLsbD 7, z := decide (v = 0) }

/-! ### The status byte -/

/-- One bit of the status byte: `f` at position `k`. -/
def statusBit (f : Bool) (k : Nat) : Byte :=
  if f then (1 : Byte) <<< k else 0

/-- R15 `Pack()`: bit 7 = N, 6 = V, 5 = 0, 4 = B, 3 = D, 2 = I, 1 = Z, 0 = C. -/
def pack (s : State) : Byte :=
  statusBit s.n 7 ||| statusBit s.v 6 ||| statusBit s.b 4 ||| statusBit s.d 3 ||| statusBit s.i 2 |||
    statusBit s.z 1 ||| statusBit s.c 0

/-- R15: the byte a software-initiated push stores, bits 5 and 4 forced to 1. -/
def pushedStatus (s : State) : Byte :=
  pack s ||| 0x30

/-- R16 `Unpack(p)`: all seven flags from their bits, bit 5 ignored (B from bit 4 by 92_eei_decisions.md D9). -/
def unpack (p : Byte) (s : State) : State :=
  { s with
    n := p.getLsbD 7
    v := p.getLsbD 6
    b := p.getLsbD 4
    d := p.getLsbD 3
    i := p.getLsbD 2
    z := p.getLsbD 1
    c := p.getLsbD 0 }

/-! ### Compare, BIT and the adder -/

/-- R107 `Compare(r, m)`: C is the unsigned comparison, N and Z come from the 8-bit difference; V and every register
stay. -/
def compareFlags (r m : Byte) (s : State) : State :=
  setNZ (r - m) { s with c := decide (m.toNat ≤ r.toNat) }

/-- R103 BIT: Z from `A & m`, N and V from bits 7 and 6 of the operand itself. -/
def bitTest (m : Byte) (s : State) : State :=
  { s with z := decide (s.a &&& m = 0), n := m.getLsbD 7, v := m.getLsbD 6 }

/-- The exact sum of R120: `t = A + m + C`, an integer in 0 .. 511. -/
def carrySum (a m : Byte) (carry : Bool) : Nat :=
  a.toNat + m.toNat + carry.toNat

/-- R120 `AddWithCarry(m)`: the sum modulo 256 to A, C its carry out, V the signed overflow, N and Z from the result.
D is not read (R123). -/
def addWithCarry (m : Byte) (s : State) : State :=
  let t := carrySum s.a m s.c
  let r : Byte := BitVec.ofNat 8 t
  setNZ r
    { s with
      c := decide (255 < t)
      v := decide ((s.a ^^^ r) &&& (m ^^^ r) &&& 0x80 ≠ 0)
      a := r }

/-- R122: SBC is `AddWithCarry(m ^ 0xFF)` (92_eei_decisions.md D8). -/
def subWithCarry (m : Byte) (s : State) : State :=
  addWithCarry (m ^^^ 0xFF) s

/-! ### Read-modify-write -/

/-- A transformation of R99: from a byte and the carry in to the new byte and the carry out. UNVERIFIED: the direction of
the four shifts and the zero that ASL and LSR fill in are the spec's general knowledge (K7, log entry 14). -/
abbrev Transform := Byte → Bool → Byte × Bool

/-- R130 ASL: bit 7 leaves into C, bit 0 is filled with 0. -/
def aslT : Transform := fun v _ => (v <<< 1, v.getLsbD 7)

/-- R131 LSR: bit 0 leaves into C, bit 7 is filled with 0. -/
def lsrT : Transform := fun v _ => (v >>> 1, v.getLsbD 0)

/-- R132 ROL: the old C enters at bit 0, bit 7 leaves into C. -/
def rolT : Transform := fun v cin => ((v <<< 1) ||| statusBit cin 0, v.getLsbD 7)

/-- R133 ROR: the old C enters at bit 7, bit 0 leaves into C. -/
def rorT : Transform := fun v cin => ((v >>> 1) ||| statusBit cin 7, v.getLsbD 0)

/-- R110 INC: plus one modulo 256, C kept. -/
def incT : Transform := fun v cin => (v + 1, cin)

/-- R111 DEC: minus one modulo 256, C kept. -/
def decT : Transform := fun v cin => (v - 1, cin)

/-- R99 `Modify(acc, f)`: `A <- f(A)`, the flags from the new value. -/
def modifyAcc (f : Transform) (s : State) : State :=
  let r := f s.a s.c
  setNZ r.1 { s with a := r.1, c := r.2 }

/-- R99 `Modify(mode, f)`: one read and then one write at `ea`, the flags from the new value. -/
def modifyMem (f : Transform) (ea : Word) (s : State) : State :=
  let r := f (s.memRead ea) s.c
  setNZ r.1 { s.memWrite ea r.1 with c := r.2 }

end Sys2Proof.Machine
end

