-- ==== Sys2Proof/Machine/Operands.lean ====
section
/-! DEFINITION. The address resolver (41_addressing_modes.md): one function per operand form, pure over the raw
operand, X, Y, and memory reads of pointer bytes; and, over them, the effective address and the operand byte of
any instruction, for statements about all of them. -/

namespace Sys2Proof.Machine

/-- A zero-page address: high byte 0 (R89). -/
def eaZp (o : Byte) : Word :=
  o.setWidth 16

/-- R90 `zpx`: `(operand + X) mod 256`, high byte 0. -/
def eaZpx (o : Byte) (s : State) : Word :=
  (o + s.x).setWidth 16

/-- R91 `zpy`: `(operand + Y) mod 256`, high byte 0. -/
def eaZpy (o : Byte) (s : State) : Word :=
  (o + s.y).setWidth 16

/-- R92 `abs`: the operand word is the address. -/
def eaAbs (w : Word) : Word :=
  w

/-- R93 `absx`: `(operand + X) mod 65536`. -/
def eaAbsx (w : Word) (s : State) : Word :=
  w + s.x.setWidth 16

/-- R94 `absy`: `(operand + Y) mod 65536`. -/
def eaAbsy (w : Word) (s : State) : Word :=
  w + s.y.setWidth 16

/-- R95, R96: where the high byte of the zero-page pointer at `ptr` is read, for either value of
`ZP_POINTER_WRAP`. -/
def zpPointerHigh (wrap : Bool) (ptr : Byte) : Word :=
  if wrap then (ptr + 1).setWidth 16 else ptr.setWidth 16 + 1

/-- R95, R96: the word that the zero-page pointer at `ptr` holds, low byte read first. -/
def zpPointer (ptr : Byte) (s : State) : Word :=
  wordOf (s.memRead (zpPointerHigh Config.zpPointerWrap ptr)) (s.memRead (eaZp ptr))

/-- R95 `indx`: the index is added to the operand modulo 256 before the indirection. -/
def eaIndx (o : Byte) (s : State) : Word :=
  zpPointer (o + s.x) s

/-- R96 `indy`: the index is added modulo 65536 after the indirection. -/
def eaIndy (o : Byte) (s : State) : Word :=
  zpPointer o s + s.y.setWidth 16

/-- R97: where `JMP (ind)` reads the high byte of its target, for either value of `JMP_IND_PAGE_WRAP`. -/
def jmpPointerHigh (wrap : Bool) (ptr : Word) : Word :=
  if wrap then (ptr &&& 0xFF00) ||| ((ptr + 1) &&& 0x00FF) else ptr + 1

/-- R97 `ind`: the target of `JMP (ind)`. -/
def jmpIndTarget (ptr : Word) (s : State) : Word :=
  wordOf (s.memRead (jmpPointerHigh Config.jmpIndPageWrap ptr)) (s.memRead ptr)

/-- R98 `rel`: the branch target, `pc` being the address after the branch; the offset is sign-extended. -/
def relTarget (pc : Word) (off : Byte) : Word :=
  pc + off.signExtend 16

/-- The address an instruction resolves to (R89 to R96), none for the forms without a memory address. For JMP abs
and JSR it is the jump target (R92). -/
def effectiveAddress (instr : Instr) (s : State) : Option Word :=
  match instr.view.mode, instr.view.operand with
  | .zp, .byte o => some (eaZp o)
  | .zpx, .byte o => some (eaZpx o s)
  | .zpy, .byte o => some (eaZpy o s)
  | .abs, .word w => some (eaAbs w)
  | .absx, .word w => some (eaAbsx w s)
  | .absy, .word w => some (eaAbsy w s)
  | .indx, .byte o => some (eaIndx o s)
  | .indy, .byte o => some (eaIndy o s)
  | _, _ => none

/-- R85 `ReadOperand(mode)`: the immediate operand, or the byte at the effective address; none for the forms that
deliver no byte. -/
def readOperand (instr : Instr) (s : State) : Option Byte :=
  match instr.view.mode, instr.view.operand with
  | .imm, .byte m => some m
  | _, _ => (effectiveAddress instr s).map s.memRead

end Sys2Proof.Machine
end

