-- ==== Sys2Proof/Machine/AddSubtract.lean ====
section
/-! DEFINITION. Meanings of the ADC and SBC, 44_add_subtract.md R120 to R123; both are binary whatever D holds. -/

namespace Sys2Proof.Machine

/-- R121 ADC, R88 `imm`. -/
def execAdcImm (m : Byte) (s : State) : StepResult :=
  .next (addWithCarry m s)

/-- R121 ADC, R89 `zp`. -/
def execAdcZp (o : Byte) (s : State) : StepResult :=
  .next (addWithCarry (s.memRead (eaZp o)) s)

/-- R121 ADC, R90 `zpx`. -/
def execAdcZpx (o : Byte) (s : State) : StepResult :=
  .next (addWithCarry (s.memRead (eaZpx o s)) s)

/-- R121 ADC, R92 `abs`. -/
def execAdcAbs (w : Word) (s : State) : StepResult :=
  .next (addWithCarry (s.memRead (eaAbs w)) s)

/-- R121 ADC, R93 `absx`. -/
def execAdcAbsx (w : Word) (s : State) : StepResult :=
  .next (addWithCarry (s.memRead (eaAbsx w s)) s)

/-- R121 ADC, R94 `absy`. -/
def execAdcAbsy (w : Word) (s : State) : StepResult :=
  .next (addWithCarry (s.memRead (eaAbsy w s)) s)

/-- R121 ADC, R95 `indx`. -/
def execAdcIndx (o : Byte) (s : State) : StepResult :=
  .next (addWithCarry (s.memRead (eaIndx o s)) s)

/-- R121 ADC, R96 `indy`. -/
def execAdcIndy (o : Byte) (s : State) : StepResult :=
  .next (addWithCarry (s.memRead (eaIndy o s)) s)

/-- R122 SBC, R88 `imm`. -/
def execSbcImm (m : Byte) (s : State) : StepResult :=
  .next (subWithCarry m s)

/-- R122 SBC, R89 `zp`. -/
def execSbcZp (o : Byte) (s : State) : StepResult :=
  .next (subWithCarry (s.memRead (eaZp o)) s)

/-- R122 SBC, R90 `zpx`. -/
def execSbcZpx (o : Byte) (s : State) : StepResult :=
  .next (subWithCarry (s.memRead (eaZpx o s)) s)

/-- R122 SBC, R92 `abs`. -/
def execSbcAbs (w : Word) (s : State) : StepResult :=
  .next (subWithCarry (s.memRead (eaAbs w)) s)

/-- R122 SBC, R93 `absx`. -/
def execSbcAbsx (w : Word) (s : State) : StepResult :=
  .next (subWithCarry (s.memRead (eaAbsx w s)) s)

/-- R122 SBC, R94 `absy`. -/
def execSbcAbsy (w : Word) (s : State) : StepResult :=
  .next (subWithCarry (s.memRead (eaAbsy w s)) s)

/-- R122 SBC, R95 `indx`. -/
def execSbcIndx (o : Byte) (s : State) : StepResult :=
  .next (subWithCarry (s.memRead (eaIndx o s)) s)

/-- R122 SBC, R96 `indy`. -/
def execSbcIndy (o : Byte) (s : State) : StepResult :=
  .next (subWithCarry (s.memRead (eaIndy o s)) s)

end Sys2Proof.Machine
end

