-- ==== Sys2Proof/Machine/ControlTransfer.lean ====
section
/-! DEFINITION. Meanings of the jumps, branches, subroutine call and return, 47_control_transfer.md R160 to R173. Every meaning runs with PC already past
the instruction (R73). -/

namespace Sys2Proof.Machine

/-- R162: take the branch if the condition holds, else nothing. -/
def branchIf (taken : Bool) (off : Byte) (s : State) : State :=
  if taken then { s with pc := relTarget s.pc off } else s

/-- R171 JSR: push PC, the address after the JSR, high byte first, and jump. -/
def callSubroutine (target : Word) (s : State) : State :=
  { s.pushWord s.pc with pc := target }

/-- R172 RTS: PC is the word pulled, with no adjustment. -/
def returnFromSubroutine (s : State) : State :=
  { s.pullWord.2 with pc := s.pullWord.1 }

/-- R160 JMP, R92 `abs`. -/
def execJmpAbs (target : Word) (s : State) : StepResult :=
  .next { s with pc := target }

/-- R161 JMP, R97 `ind`. -/
def execJmpInd (ptr : Word) (s : State) : StepResult :=
  .next { s with pc := jmpIndTarget ptr s }

/-- R163 BCC, R98 `rel`. -/
def execBcc (off : Byte) (s : State) : StepResult :=
  .next (branchIf (!s.c) off s)

/-- R164 BCS, R98 `rel`. -/
def execBcs (off : Byte) (s : State) : StepResult :=
  .next (branchIf s.c off s)

/-- R165 BEQ, R98 `rel`. -/
def execBeq (off : Byte) (s : State) : StepResult :=
  .next (branchIf s.z off s)

/-- R166 BNE, R98 `rel`. -/
def execBne (off : Byte) (s : State) : StepResult :=
  .next (branchIf (!s.z) off s)

/-- R167 BMI, R98 `rel`. -/
def execBmi (off : Byte) (s : State) : StepResult :=
  .next (branchIf s.n off s)

/-- R168 BPL, R98 `rel`. -/
def execBpl (off : Byte) (s : State) : StepResult :=
  .next (branchIf (!s.n) off s)

/-- R169 BVC, R98 `rel`. -/
def execBvc (off : Byte) (s : State) : StepResult :=
  .next (branchIf (!s.v) off s)

/-- R170 BVS, R98 `rel`. -/
def execBvs (off : Byte) (s : State) : StepResult :=
  .next (branchIf s.v off s)

/-- R171 JSR, R92 `abs`. -/
def execJsr (target : Word) (s : State) : StepResult :=
  .next (callSubroutine target s)

/-- R172 RTS, R86 `imp`. -/
def execRts (s : State) : StepResult :=
  .next (returnFromSubroutine s)

end Sys2Proof.Machine
end

