-- ==== Sys2Proof/Machine/Halting.lean ====
section
/-! DEFINITION. Meanings of the BRK and the unassigned opcodes, 49_halting.md R200 to R202. -/

namespace Sys2Proof.Machine

/-- R200 BRK: PC back onto the BRK opcode and `Break`; nothing else changes (92_eei_decisions.md D10). -/
def execBrk (s : State) : StepResult :=
  raiseCondition .brk s

/-- R201 an unassigned opcode: PC back onto the offending byte and `IllegalOpcode` carrying it. -/
def raiseIllegalOpcode (opcode : Byte) (s : State) : StepResult :=
  raiseCondition (.illegalOpcode opcode) s

end Sys2Proof.Machine
end

