-- ==== Sys2Proof/Machine/LoadStoreTransfer.lean ====
section
/-! DEFINITION. Meanings of the load, store and register-transfer instructions, 46_load_store_transfer.md R140 to R151 (the flags of
loads and transfers by 92_eei_decisions.md D2). -/

namespace Sys2Proof.Machine

/-- `A <- v; SetNZ(A)` (R140). -/
def loadA (v : Byte) (s : State) : State :=
  setNZ v { s with a := v }

/-- `X <- v; SetNZ(X)` (R141). -/
def loadX (v : Byte) (s : State) : State :=
  setNZ v { s with x := v }

/-- `Y <- v; SetNZ(Y)` (R142). -/
def loadY (v : Byte) (s : State) : State :=
  setNZ v { s with y := v }

/-- R140 LDA, R88 `imm`. -/
def execLdaImm (m : Byte) (s : State) : StepResult :=
  .next (loadA m s)

/-- R140 LDA, R89 `zp`. -/
def execLdaZp (o : Byte) (s : State) : StepResult :=
  .next (loadA (s.memRead (eaZp o)) s)

/-- R140 LDA, R90 `zpx`. -/
def execLdaZpx (o : Byte) (s : State) : StepResult :=
  .next (loadA (s.memRead (eaZpx o s)) s)

/-- R140 LDA, R92 `abs`. -/
def execLdaAbs (w : Word) (s : State) : StepResult :=
  .next (loadA (s.memRead (eaAbs w)) s)

/-- R140 LDA, R93 `absx`. -/
def execLdaAbsx (w : Word) (s : State) : StepResult :=
  .next (loadA (s.memRead (eaAbsx w s)) s)

/-- R140 LDA, R94 `absy`. -/
def execLdaAbsy (w : Word) (s : State) : StepResult :=
  .next (loadA (s.memRead (eaAbsy w s)) s)

/-- R140 LDA, R95 `indx`. -/
def execLdaIndx (o : Byte) (s : State) : StepResult :=
  .next (loadA (s.memRead (eaIndx o s)) s)

/-- R140 LDA, R96 `indy`. -/
def execLdaIndy (o : Byte) (s : State) : StepResult :=
  .next (loadA (s.memRead (eaIndy o s)) s)

/-- R141 LDX, R88 `imm`. -/
def execLdxImm (m : Byte) (s : State) : StepResult :=
  .next (loadX m s)

/-- R141 LDX, R89 `zp`. -/
def execLdxZp (o : Byte) (s : State) : StepResult :=
  .next (loadX (s.memRead (eaZp o)) s)

/-- R141 LDX, R91 `zpy`. -/
def execLdxZpy (o : Byte) (s : State) : StepResult :=
  .next (loadX (s.memRead (eaZpy o s)) s)

/-- R141 LDX, R92 `abs`. -/
def execLdxAbs (w : Word) (s : State) : StepResult :=
  .next (loadX (s.memRead (eaAbs w)) s)

/-- R141 LDX, R94 `absy`. -/
def execLdxAbsy (w : Word) (s : State) : StepResult :=
  .next (loadX (s.memRead (eaAbsy w s)) s)

/-- R142 LDY, R88 `imm`. -/
def execLdyImm (m : Byte) (s : State) : StepResult :=
  .next (loadY m s)

/-- R142 LDY, R89 `zp`. -/
def execLdyZp (o : Byte) (s : State) : StepResult :=
  .next (loadY (s.memRead (eaZp o)) s)

/-- R142 LDY, R90 `zpx`. -/
def execLdyZpx (o : Byte) (s : State) : StepResult :=
  .next (loadY (s.memRead (eaZpx o s)) s)

/-- R142 LDY, R92 `abs`. -/
def execLdyAbs (w : Word) (s : State) : StepResult :=
  .next (loadY (s.memRead (eaAbs w)) s)

/-- R142 LDY, R93 `absx`. -/
def execLdyAbsx (w : Word) (s : State) : StepResult :=
  .next (loadY (s.memRead (eaAbsx w s)) s)

/-- R143 STA, R89 `zp`. -/
def execStaZp (o : Byte) (s : State) : StepResult :=
  .next (s.memWrite (eaZp o) s.a)

/-- R143 STA, R90 `zpx`. -/
def execStaZpx (o : Byte) (s : State) : StepResult :=
  .next (s.memWrite (eaZpx o s) s.a)

/-- R143 STA, R92 `abs`. -/
def execStaAbs (w : Word) (s : State) : StepResult :=
  .next (s.memWrite (eaAbs w) s.a)

/-- R143 STA, R93 `absx`. -/
def execStaAbsx (w : Word) (s : State) : StepResult :=
  .next (s.memWrite (eaAbsx w s) s.a)

/-- R143 STA, R94 `absy`. -/
def execStaAbsy (w : Word) (s : State) : StepResult :=
  .next (s.memWrite (eaAbsy w s) s.a)

/-- R143 STA, R95 `indx`. -/
def execStaIndx (o : Byte) (s : State) : StepResult :=
  .next (s.memWrite (eaIndx o s) s.a)

/-- R143 STA, R96 `indy`. -/
def execStaIndy (o : Byte) (s : State) : StepResult :=
  .next (s.memWrite (eaIndy o s) s.a)

/-- R144 STX, R89 `zp`. -/
def execStxZp (o : Byte) (s : State) : StepResult :=
  .next (s.memWrite (eaZp o) s.x)

/-- R144 STX, R91 `zpy`. -/
def execStxZpy (o : Byte) (s : State) : StepResult :=
  .next (s.memWrite (eaZpy o s) s.x)

/-- R144 STX, R92 `abs`. -/
def execStxAbs (w : Word) (s : State) : StepResult :=
  .next (s.memWrite (eaAbs w) s.x)

/-- R145 STY, R89 `zp`. -/
def execStyZp (o : Byte) (s : State) : StepResult :=
  .next (s.memWrite (eaZp o) s.y)

/-- R145 STY, R90 `zpx`. -/
def execStyZpx (o : Byte) (s : State) : StepResult :=
  .next (s.memWrite (eaZpx o s) s.y)

/-- R145 STY, R92 `abs`. -/
def execStyAbs (w : Word) (s : State) : StepResult :=
  .next (s.memWrite (eaAbs w) s.y)

/-- R146 TAX, R86 `imp`. -/
def execTax (s : State) : StepResult :=
  .next (loadX s.a s)

/-- R147 TAY, R86 `imp`. -/
def execTay (s : State) : StepResult :=
  .next (loadY s.a s)

/-- R148 TXA, R86 `imp`. -/
def execTxa (s : State) : StepResult :=
  .next (loadA s.x s)

/-- R149 TYA, R86 `imp`. -/
def execTya (s : State) : StepResult :=
  .next (loadA s.y s)

/-- R150 TSX, R86 `imp`. -/
def execTsx (s : State) : StepResult :=
  .next (loadX s.sp s)

/-- R151 TXS, R86 `imp`. -/
def execTxs (s : State) : StepResult :=
  .next { s with sp := s.x }

end Sys2Proof.Machine
end

