-- ==== Sys2Proof/Machine/IncDec.lean ====
section
/-! DEFINITION. Meanings of the increment and decrement instructions, 43_inc_dec.md R110 to R115. The memory forms go through `modifyMem` (R99); the
register forms write the register and N, Z from the new value, as a load does. -/

namespace Sys2Proof.Machine

/-- R110 INC, R89 `zp`. -/
def execIncZp (o : Byte) (s : State) : StepResult :=
  .next (modifyMem incT (eaZp o) s)

/-- R110 INC, R90 `zpx`. -/
def execIncZpx (o : Byte) (s : State) : StepResult :=
  .next (modifyMem incT (eaZpx o s) s)

/-- R110 INC, R92 `abs`. -/
def execIncAbs (w : Word) (s : State) : StepResult :=
  .next (modifyMem incT (eaAbs w) s)

/-- R110 INC, R93 `absx`. -/
def execIncAbsx (w : Word) (s : State) : StepResult :=
  .next (modifyMem incT (eaAbsx w s) s)

/-- R111 DEC, R89 `zp`. -/
def execDecZp (o : Byte) (s : State) : StepResult :=
  .next (modifyMem decT (eaZp o) s)

/-- R111 DEC, R90 `zpx`. -/
def execDecZpx (o : Byte) (s : State) : StepResult :=
  .next (modifyMem decT (eaZpx o s) s)

/-- R111 DEC, R92 `abs`. -/
def execDecAbs (w : Word) (s : State) : StepResult :=
  .next (modifyMem decT (eaAbs w) s)

/-- R111 DEC, R93 `absx`. -/
def execDecAbsx (w : Word) (s : State) : StepResult :=
  .next (modifyMem decT (eaAbsx w s) s)

/-- R112 INX, R86 `imp`. -/
def execInx (s : State) : StepResult :=
  .next (loadX (s.x + 1) s)

/-- R113 INY, R86 `imp`. -/
def execIny (s : State) : StepResult :=
  .next (loadY (s.y + 1) s)

/-- R114 DEX, R86 `imp`. -/
def execDex (s : State) : StepResult :=
  .next (loadX (s.x - 1) s)

/-- R115 DEY, R86 `imp`. -/
def execDey (s : State) : StepResult :=
  .next (loadY (s.y - 1) s)

end Sys2Proof.Machine
end

