-- ==== Sys2Proof/Machine/LogicCompare.lean ====
section
/-! DEFINITION. Meanings of the logical, bit-test and compare instructions, 42_logic_bit_compare.md R100 to R107. -/

namespace Sys2Proof.Machine

/-- R100 AND, the transformation: `A <- A & m; SetNZ(A)`. -/
def andA (m : Byte) (s : State) : State :=
  setNZ (s.a &&& m) { s with a := s.a &&& m }

/-- R101 EOR, the transformation: `A <- A ^ m; SetNZ(A)`. -/
def eorA (m : Byte) (s : State) : State :=
  setNZ (s.a ^^^ m) { s with a := s.a ^^^ m }

/-- R102 ORA, the transformation: `A <- A | m; SetNZ(A)`. -/
def oraA (m : Byte) (s : State) : State :=
  setNZ (s.a ||| m) { s with a := s.a ||| m }

/-- R104 CMP, the transformation: `Compare(A, m)`. -/
def cmpA (m : Byte) (s : State) : State :=
  compareFlags s.a m s

/-- R105 CPX, the transformation: `Compare(X, m)`. -/
def cmpX (m : Byte) (s : State) : State :=
  compareFlags s.x m s

/-- R106 CPY, the transformation: `Compare(Y, m)`. -/
def cmpY (m : Byte) (s : State) : State :=
  compareFlags s.y m s

/-- R100 AND, R88 `imm`. -/
def execAndImm (m : Byte) (s : State) : StepResult :=
  .next (andA m s)

/-- R100 AND, R89 `zp`. -/
def execAndZp (o : Byte) (s : State) : StepResult :=
  .next (andA (s.memRead (eaZp o)) s)

/-- R100 AND, R90 `zpx`. -/
def execAndZpx (o : Byte) (s : State) : StepResult :=
  .next (andA (s.memRead (eaZpx o s)) s)

/-- R100 AND, R92 `abs`. -/
def execAndAbs (w : Word) (s : State) : StepResult :=
  .next (andA (s.memRead (eaAbs w)) s)

/-- R100 AND, R93 `absx`. -/
def execAndAbsx (w : Word) (s : State) : StepResult :=
  .next (andA (s.memRead (eaAbsx w s)) s)

/-- R100 AND, R94 `absy`. -/
def execAndAbsy (w : Word) (s : State) : StepResult :=
  .next (andA (s.memRead (eaAbsy w s)) s)

/-- R100 AND, R95 `indx`. -/
def execAndIndx (o : Byte) (s : State) : StepResult :=
  .next (andA (s.memRead (eaIndx o s)) s)

/-- R100 AND, R96 `indy`. -/
def execAndIndy (o : Byte) (s : State) : StepResult :=
  .next (andA (s.memRead (eaIndy o s)) s)

/-- R101 EOR, R88 `imm`. -/
def execEorImm (m : Byte) (s : State) : StepResult :=
  .next (eorA m s)

/-- R101 EOR, R89 `zp`. -/
def execEorZp (o : Byte) (s : State) : StepResult :=
  .next (eorA (s.memRead (eaZp o)) s)

/-- R101 EOR, R90 `zpx`. -/
def execEorZpx (o : Byte) (s : State) : StepResult :=
  .next (eorA (s.memRead (eaZpx o s)) s)

/-- R101 EOR, R92 `abs`. -/
def execEorAbs (w : Word) (s : State) : StepResult :=
  .next (eorA (s.memRead (eaAbs w)) s)

/-- R101 EOR, R93 `absx`. -/
def execEorAbsx (w : Word) (s : State) : StepResult :=
  .next (eorA (s.memRead (eaAbsx w s)) s)

/-- R101 EOR, R94 `absy`. -/
def execEorAbsy (w : Word) (s : State) : StepResult :=
  .next (eorA (s.memRead (eaAbsy w s)) s)

/-- R101 EOR, R95 `indx`. -/
def execEorIndx (o : Byte) (s : State) : StepResult :=
  .next (eorA (s.memRead (eaIndx o s)) s)

/-- R101 EOR, R96 `indy`. -/
def execEorIndy (o : Byte) (s : State) : StepResult :=
  .next (eorA (s.memRead (eaIndy o s)) s)

/-- R102 ORA, R88 `imm`. -/
def execOraImm (m : Byte) (s : State) : StepResult :=
  .next (oraA m s)

/-- R102 ORA, R89 `zp`. -/
def execOraZp (o : Byte) (s : State) : StepResult :=
  .next (oraA (s.memRead (eaZp o)) s)

/-- R102 ORA, R90 `zpx`. -/
def execOraZpx (o : Byte) (s : State) : StepResult :=
  .next (oraA (s.memRead (eaZpx o s)) s)

/-- R102 ORA, R92 `abs`. -/
def execOraAbs (w : Word) (s : State) : StepResult :=
  .next (oraA (s.memRead (eaAbs w)) s)

/-- R102 ORA, R93 `absx`. -/
def execOraAbsx (w : Word) (s : State) : StepResult :=
  .next (oraA (s.memRead (eaAbsx w s)) s)

/-- R102 ORA, R94 `absy`. -/
def execOraAbsy (w : Word) (s : State) : StepResult :=
  .next (oraA (s.memRead (eaAbsy w s)) s)

/-- R102 ORA, R95 `indx`. -/
def execOraIndx (o : Byte) (s : State) : StepResult :=
  .next (oraA (s.memRead (eaIndx o s)) s)

/-- R102 ORA, R96 `indy`. -/
def execOraIndy (o : Byte) (s : State) : StepResult :=
  .next (oraA (s.memRead (eaIndy o s)) s)

/-- R103 BIT, R89 `zp`. -/
def execBitZp (o : Byte) (s : State) : StepResult :=
  .next (bitTest (s.memRead (eaZp o)) s)

/-- R103 BIT, R92 `abs`. -/
def execBitAbs (w : Word) (s : State) : StepResult :=
  .next (bitTest (s.memRead (eaAbs w)) s)

/-- R104 CMP, R88 `imm`. -/
def execCmpImm (m : Byte) (s : State) : StepResult :=
  .next (cmpA m s)

/-- R104 CMP, R89 `zp`. -/
def execCmpZp (o : Byte) (s : State) : StepResult :=
  .next (cmpA (s.memRead (eaZp o)) s)

/-- R104 CMP, R90 `zpx`. -/
def execCmpZpx (o : Byte) (s : State) : StepResult :=
  .next (cmpA (s.memRead (eaZpx o s)) s)

/-- R104 CMP, R92 `abs`. -/
def execCmpAbs (w : Word) (s : State) : StepResult :=
  .next (cmpA (s.memRead (eaAbs w)) s)

/-- R104 CMP, R93 `absx`. -/
def execCmpAbsx (w : Word) (s : State) : StepResult :=
  .next (cmpA (s.memRead (eaAbsx w s)) s)

/-- R104 CMP, R94 `absy`. -/
def execCmpAbsy (w : Word) (s : State) : StepResult :=
  .next (cmpA (s.memRead (eaAbsy w s)) s)

/-- R104 CMP, R95 `indx`. -/
def execCmpIndx (o : Byte) (s : State) : StepResult :=
  .next (cmpA (s.memRead (eaIndx o s)) s)

/-- R104 CMP, R96 `indy`. -/
def execCmpIndy (o : Byte) (s : State) : StepResult :=
  .next (cmpA (s.memRead (eaIndy o s)) s)

/-- R105 CPX, R88 `imm`. -/
def execCpxImm (m : Byte) (s : State) : StepResult :=
  .next (cmpX m s)

/-- R105 CPX, R89 `zp`. -/
def execCpxZp (o : Byte) (s : State) : StepResult :=
  .next (cmpX (s.memRead (eaZp o)) s)

/-- R105 CPX, R92 `abs`. -/
def execCpxAbs (w : Word) (s : State) : StepResult :=
  .next (cmpX (s.memRead (eaAbs w)) s)

/-- R106 CPY, R88 `imm`. -/
def execCpyImm (m : Byte) (s : State) : StepResult :=
  .next (cmpY m s)

/-- R106 CPY, R89 `zp`. -/
def execCpyZp (o : Byte) (s : State) : StepResult :=
  .next (cmpY (s.memRead (eaZp o)) s)

/-- R106 CPY, R92 `abs`. -/
def execCpyAbs (w : Word) (s : State) : StepResult :=
  .next (cmpY (s.memRead (eaAbs w)) s)

end Sys2Proof.Machine
end

