-- ==== Sys2Proof/Machine/ShiftRotate.lean ====
section
/-! DEFINITION. Meanings of the shift and rotate instructions, 45_shift_rotate.md R130 to R133, through the helper of R99. -/

namespace Sys2Proof.Machine

/-- R130 ASL, R87 `acc`. -/
def execAslAcc (s : State) : StepResult :=
  .next (modifyAcc aslT s)

/-- R130 ASL, R89 `zp`. -/
def execAslZp (o : Byte) (s : State) : StepResult :=
  .next (modifyMem aslT (eaZp o) s)

/-- R130 ASL, R90 `zpx`. -/
def execAslZpx (o : Byte) (s : State) : StepResult :=
  .next (modifyMem aslT (eaZpx o s) s)

/-- R130 ASL, R92 `abs`. -/
def execAslAbs (w : Word) (s : State) : StepResult :=
  .next (modifyMem aslT (eaAbs w) s)

/-- R130 ASL, R93 `absx`. -/
def execAslAbsx (w : Word) (s : State) : StepResult :=
  .next (modifyMem aslT (eaAbsx w s) s)

/-- R131 LSR, R87 `acc`. -/
def execLsrAcc (s : State) : StepResult :=
  .next (modifyAcc lsrT s)

/-- R131 LSR, R89 `zp`. -/
def execLsrZp (o : Byte) (s : State) : StepResult :=
  .next (modifyMem lsrT (eaZp o) s)

/-- R131 LSR, R90 `zpx`. -/
def execLsrZpx (o : Byte) (s : State) : StepResult :=
  .next (modifyMem lsrT (eaZpx o s) s)

/-- R131 LSR, R92 `abs`. -/
def execLsrAbs (w : Word) (s : State) : StepResult :=
  .next (modifyMem lsrT (eaAbs w) s)

/-- R131 LSR, R93 `absx`. -/
def execLsrAbsx (w : Word) (s : State) : StepResult :=
  .next (modifyMem lsrT (eaAbsx w s) s)

/-- R132 ROL, R87 `acc`. -/
def execRolAcc (s : State) : StepResult :=
  .next (modifyAcc rolT s)

/-- R132 ROL, R89 `zp`. -/
def execRolZp (o : Byte) (s : State) : StepResult :=
  .next (modifyMem rolT (eaZp o) s)

/-- R132 ROL, R90 `zpx`. -/
def execRolZpx (o : Byte) (s : State) : StepResult :=
  .next (modifyMem rolT (eaZpx o s) s)

/-- R132 ROL, R92 `abs`. -/
def execRolAbs (w : Word) (s : State) : StepResult :=
  .next (modifyMem rolT (eaAbs w) s)

/-- R132 ROL, R93 `absx`. -/
def execRolAbsx (w : Word) (s : State) : StepResult :=
  .next (modifyMem rolT (eaAbsx w s) s)

/-- R133 ROR, R87 `acc`. -/
def execRorAcc (s : State) : StepResult :=
  .next (modifyAcc rorT s)

/-- R133 ROR, R89 `zp`. -/
def execRorZp (o : Byte) (s : State) : StepResult :=
  .next (modifyMem rorT (eaZp o) s)

/-- R133 ROR, R90 `zpx`. -/
def execRorZpx (o : Byte) (s : State) : StepResult :=
  .next (modifyMem rorT (eaZpx o s) s)

/-- R133 ROR, R92 `abs`. -/
def execRorAbs (w : Word) (s : State) : StepResult :=
  .next (modifyMem rorT (eaAbs w) s)

/-- R133 ROR, R93 `absx`. -/
def execRorAbsx (w : Word) (s : State) : StepResult :=
  .next (modifyMem rorT (eaAbsx w s) s)

end Sys2Proof.Machine
end

