-- ==== Sys2Proof/Machine/StackFlagsNop.lean ====
section
/-! DEFINITION. Meanings of the stack push and pull, flag set and clear, no operation, 48_stack_flags_nop.md R180 to R191. -/

namespace Sys2Proof.Machine

/-- R180 PHA, R86 `imp`. -/
def execPha (s : State) : StepResult :=
  .next (s.push s.a)

/-- R181 PHP, R86 `imp`. -/
def execPhp (s : State) : StepResult :=
  .next (s.push (pushedStatus s))

/-- R182 PLA, R86 `imp`. -/
def execPla (s : State) : StepResult :=
  .next (loadA s.pull.1 s.pull.2)

/-- R183 PLP, R86 `imp`. -/
def execPlp (s : State) : StepResult :=
  .next (unpack s.pull.1 s.pull.2)

/-- R184 CLC, R86 `imp`. -/
def execClc (s : State) : StepResult :=
  .next { s with c := false }

/-- R185 SEC, R86 `imp`. -/
def execSec (s : State) : StepResult :=
  .next { s with c := true }

/-- R186 CLI, R86 `imp`. -/
def execCli (s : State) : StepResult :=
  .next { s with i := false }

/-- R187 SEI, R86 `imp`. -/
def execSei (s : State) : StepResult :=
  .next { s with i := true }

/-- R188 CLV, R86 `imp`. -/
def execClv (s : State) : StepResult :=
  .next { s with v := false }

/-- R189 CLD, R86 `imp`. -/
def execCld (s : State) : StepResult :=
  .next { s with d := false }

/-- R190 SED, R86 `imp`. -/
def execSed (s : State) : StepResult :=
  .next { s with d := true }

/-- R191 NOP, R86 `imp`. -/
def execNop (s : State) : StepResult :=
  .next s

end Sys2Proof.Machine
end

