-- ==== Sys2Proof/Machine/Dispatch.lean ====
section
/-! DEFINITION. One arm per instruction: the execute phase of the step (40_step_fetch_decode.md R70), run with PC already past
the instruction. -/

namespace Sys2Proof.Machine

def exec (i : Instr) (s : State) : Host.Outcome State Fault Refusal :=
  match i with
  -- 42_logic_bit_compare.md: logic, BIT, compare
  | .andImm m => Sys2Proof.Machine.execAndImm m s
  | .andZp o => Sys2Proof.Machine.execAndZp o s
  | .andZpx o => Sys2Proof.Machine.execAndZpx o s
  | .andAbs w => Sys2Proof.Machine.execAndAbs w s
  | .andAbsx w => Sys2Proof.Machine.execAndAbsx w s
  | .andAbsy w => Sys2Proof.Machine.execAndAbsy w s
  | .andIndx o => Sys2Proof.Machine.execAndIndx o s
  | .andIndy o => Sys2Proof.Machine.execAndIndy o s
  | .eorImm m => Sys2Proof.Machine.execEorImm m s
  | .eorZp o => Sys2Proof.Machine.execEorZp o s
  | .eorZpx o => Sys2Proof.Machine.execEorZpx o s
  | .eorAbs w => Sys2Proof.Machine.execEorAbs w s
  | .eorAbsx w => Sys2Proof.Machine.execEorAbsx w s
  | .eorAbsy w => Sys2Proof.Machine.execEorAbsy w s
  | .eorIndx o => Sys2Proof.Machine.execEorIndx o s
  | .eorIndy o => Sys2Proof.Machine.execEorIndy o s
  | .oraImm m => Sys2Proof.Machine.execOraImm m s
  | .oraZp o => Sys2Proof.Machine.execOraZp o s
  | .oraZpx o => Sys2Proof.Machine.execOraZpx o s
  | .oraAbs w => Sys2Proof.Machine.execOraAbs w s
  | .oraAbsx w => Sys2Proof.Machine.execOraAbsx w s
  | .oraAbsy w => Sys2Proof.Machine.execOraAbsy w s
  | .oraIndx o => Sys2Proof.Machine.execOraIndx o s
  | .oraIndy o => Sys2Proof.Machine.execOraIndy o s
  | .bitZp o => Sys2Proof.Machine.execBitZp o s
  | .bitAbs w => Sys2Proof.Machine.execBitAbs w s
  | .cmpImm m => Sys2Proof.Machine.execCmpImm m s
  | .cmpZp o => Sys2Proof.Machine.execCmpZp o s
  | .cmpZpx o => Sys2Proof.Machine.execCmpZpx o s
  | .cmpAbs w => Sys2Proof.Machine.execCmpAbs w s
  | .cmpAbsx w => Sys2Proof.Machine.execCmpAbsx w s
  | .cmpAbsy w => Sys2Proof.Machine.execCmpAbsy w s
  | .cmpIndx o => Sys2Proof.Machine.execCmpIndx o s
  | .cmpIndy o => Sys2Proof.Machine.execCmpIndy o s
  | .cpxImm m => Sys2Proof.Machine.execCpxImm m s
  | .cpxZp o => Sys2Proof.Machine.execCpxZp o s
  | .cpxAbs w => Sys2Proof.Machine.execCpxAbs w s
  | .cpyImm m => Sys2Proof.Machine.execCpyImm m s
  | .cpyZp o => Sys2Proof.Machine.execCpyZp o s
  | .cpyAbs w => Sys2Proof.Machine.execCpyAbs w s
  -- 43_inc_dec.md: increment and decrement
  | .incZp o => Sys2Proof.Machine.execIncZp o s
  | .incZpx o => Sys2Proof.Machine.execIncZpx o s
  | .incAbs w => Sys2Proof.Machine.execIncAbs w s
  | .incAbsx w => Sys2Proof.Machine.execIncAbsx w s
  | .decZp o => Sys2Proof.Machine.execDecZp o s
  | .decZpx o => Sys2Proof.Machine.execDecZpx o s
  | .decAbs w => Sys2Proof.Machine.execDecAbs w s
  | .decAbsx w => Sys2Proof.Machine.execDecAbsx w s
  | .inx => Sys2Proof.Machine.execInx s
  | .iny => Sys2Proof.Machine.execIny s
  | .dex => Sys2Proof.Machine.execDex s
  | .dey => Sys2Proof.Machine.execDey s
  -- 44_add_subtract.md: add and subtract with carry
  | .adcImm m => Sys2Proof.Machine.execAdcImm m s
  | .adcZp o => Sys2Proof.Machine.execAdcZp o s
  | .adcZpx o => Sys2Proof.Machine.execAdcZpx o s
  | .adcAbs w => Sys2Proof.Machine.execAdcAbs w s
  | .adcAbsx w => Sys2Proof.Machine.execAdcAbsx w s
  | .adcAbsy w => Sys2Proof.Machine.execAdcAbsy w s
  | .adcIndx o => Sys2Proof.Machine.execAdcIndx o s
  | .adcIndy o => Sys2Proof.Machine.execAdcIndy o s
  | .sbcImm m => Sys2Proof.Machine.execSbcImm m s
  | .sbcZp o => Sys2Proof.Machine.execSbcZp o s
  | .sbcZpx o => Sys2Proof.Machine.execSbcZpx o s
  | .sbcAbs w => Sys2Proof.Machine.execSbcAbs w s
  | .sbcAbsx w => Sys2Proof.Machine.execSbcAbsx w s
  | .sbcAbsy w => Sys2Proof.Machine.execSbcAbsy w s
  | .sbcIndx o => Sys2Proof.Machine.execSbcIndx o s
  | .sbcIndy o => Sys2Proof.Machine.execSbcIndy o s
  -- 45_shift_rotate.md: shifts and rotates
  | .aslAcc => Sys2Proof.Machine.execAslAcc s
  | .aslZp o => Sys2Proof.Machine.execAslZp o s
  | .aslZpx o => Sys2Proof.Machine.execAslZpx o s
  | .aslAbs w => Sys2Proof.Machine.execAslAbs w s
  | .aslAbsx w => Sys2Proof.Machine.execAslAbsx w s
  | .lsrAcc => Sys2Proof.Machine.execLsrAcc s
  | .lsrZp o => Sys2Proof.Machine.execLsrZp o s
  | .lsrZpx o => Sys2Proof.Machine.execLsrZpx o s
  | .lsrAbs w => Sys2Proof.Machine.execLsrAbs w s
  | .lsrAbsx w => Sys2Proof.Machine.execLsrAbsx w s
  | .rolAcc => Sys2Proof.Machine.execRolAcc s
  | .rolZp o => Sys2Proof.Machine.execRolZp o s
  | .rolZpx o => Sys2Proof.Machine.execRolZpx o s
  | .rolAbs w => Sys2Proof.Machine.execRolAbs w s
  | .rolAbsx w => Sys2Proof.Machine.execRolAbsx w s
  | .rorAcc => Sys2Proof.Machine.execRorAcc s
  | .rorZp o => Sys2Proof.Machine.execRorZp o s
  | .rorZpx o => Sys2Proof.Machine.execRorZpx o s
  | .rorAbs w => Sys2Proof.Machine.execRorAbs w s
  | .rorAbsx w => Sys2Proof.Machine.execRorAbsx w s
  -- 46_load_store_transfer.md: loads, stores, transfers
  | .ldaImm m => Sys2Proof.Machine.execLdaImm m s
  | .ldaZp o => Sys2Proof.Machine.execLdaZp o s
  | .ldaZpx o => Sys2Proof.Machine.execLdaZpx o s
  | .ldaAbs w => Sys2Proof.Machine.execLdaAbs w s
  | .ldaAbsx w => Sys2Proof.Machine.execLdaAbsx w s
  | .ldaAbsy w => Sys2Proof.Machine.execLdaAbsy w s
  | .ldaIndx o => Sys2Proof.Machine.execLdaIndx o s
  | .ldaIndy o => Sys2Proof.Machine.execLdaIndy o s
  | .ldxImm m => Sys2Proof.Machine.execLdxImm m s
  | .ldxZp o => Sys2Proof.Machine.execLdxZp o s
  | .ldxZpy o => Sys2Proof.Machine.execLdxZpy o s
  | .ldxAbs w => Sys2Proof.Machine.execLdxAbs w s
  | .ldxAbsy w => Sys2Proof.Machine.execLdxAbsy w s
  | .ldyImm m => Sys2Proof.Machine.execLdyImm m s
  | .ldyZp o => Sys2Proof.Machine.execLdyZp o s
  | .ldyZpx o => Sys2Proof.Machine.execLdyZpx o s
  | .ldyAbs w => Sys2Proof.Machine.execLdyAbs w s
  | .ldyAbsx w => Sys2Proof.Machine.execLdyAbsx w s
  | .staZp o => Sys2Proof.Machine.execStaZp o s
  | .staZpx o => Sys2Proof.Machine.execStaZpx o s
  | .staAbs w => Sys2Proof.Machine.execStaAbs w s
  | .staAbsx w => Sys2Proof.Machine.execStaAbsx w s
  | .staAbsy w => Sys2Proof.Machine.execStaAbsy w s
  | .staIndx o => Sys2Proof.Machine.execStaIndx o s
  | .staIndy o => Sys2Proof.Machine.execStaIndy o s
  | .stxZp o => Sys2Proof.Machine.execStxZp o s
  | .stxZpy o => Sys2Proof.Machine.execStxZpy o s
  | .stxAbs w => Sys2Proof.Machine.execStxAbs w s
  | .styZp o => Sys2Proof.Machine.execStyZp o s
  | .styZpx o => Sys2Proof.Machine.execStyZpx o s
  | .styAbs w => Sys2Proof.Machine.execStyAbs w s
  | .tax => Sys2Proof.Machine.execTax s
  | .tay => Sys2Proof.Machine.execTay s
  | .txa => Sys2Proof.Machine.execTxa s
  | .tya => Sys2Proof.Machine.execTya s
  | .tsx => Sys2Proof.Machine.execTsx s
  | .txs => Sys2Proof.Machine.execTxs s
  -- 47_control_transfer.md: jumps, branches, subroutines
  | .jmpAbs target => Sys2Proof.Machine.execJmpAbs target s
  | .jmpInd ptr => Sys2Proof.Machine.execJmpInd ptr s
  | .bcc off => Sys2Proof.Machine.execBcc off s
  | .bcs off => Sys2Proof.Machine.execBcs off s
  | .beq off => Sys2Proof.Machine.execBeq off s
  | .bne off => Sys2Proof.Machine.execBne off s
  | .bmi off => Sys2Proof.Machine.execBmi off s
  | .bpl off => Sys2Proof.Machine.execBpl off s
  | .bvc off => Sys2Proof.Machine.execBvc off s
  | .bvs off => Sys2Proof.Machine.execBvs off s
  | .jsr target => Sys2Proof.Machine.execJsr target s
  | .rts => Sys2Proof.Machine.execRts s
  -- 48_stack_flags_nop.md: stack, flags, no operation
  | .pha => Sys2Proof.Machine.execPha s
  | .php => Sys2Proof.Machine.execPhp s
  | .pla => Sys2Proof.Machine.execPla s
  | .plp => Sys2Proof.Machine.execPlp s
  | .clc => Sys2Proof.Machine.execClc s
  | .sec => Sys2Proof.Machine.execSec s
  | .cli => Sys2Proof.Machine.execCli s
  | .sei => Sys2Proof.Machine.execSei s
  | .clv => Sys2Proof.Machine.execClv s
  | .cld => Sys2Proof.Machine.execCld s
  | .sed => Sys2Proof.Machine.execSed s
  | .nop => Sys2Proof.Machine.execNop s
  -- 49_halting.md: BRK
  | .brk => Sys2Proof.Machine.execBrk s

end Sys2Proof.Machine
end

