-- ==== Sys2Proof/Machine/Fetch.lean ====
section
/-! DEFINITION. The fetch unit (40_step_fetch_decode.md R70, R71, R73): opcode and operand bytes from memory at PC, PC
incremented modulo 65536 after each, the operand only after the opcode has selected its length. -/

namespace Sys2Proof.Machine

/-- Read the byte at PC and increment PC modulo 65536 (R11, R71). -/
def fetchByte (s : State) : Byte × State :=
  (s.memRead s.pc, { s with pc := s.pc + 1 })

/-- R73: the operand bytes the row still takes, low byte first, and the completed instruction. -/
def fetchOperand (row : Row) (s : State) : Instr × State :=
  match row with
  | .op0 instr => (instr, s)
  | .op1 mk =>
    let o := fetchByte s
    (mk o.1, o.2)
  | .op2 mk =>
    let lo := fetchByte s
    let hi := fetchByte lo.2
    (mk (wordOf hi.1 lo.1), hi.2)

/-- The fetch and decode phases of R70: an instruction with PC past its last byte, or the unassigned opcode byte with
PC past it. -/
def fetchInstr (s : State) : Except (Byte × State) (Instr × State) :=
  let opcode := fetchByte s
  match decodeOpcode opcode.1 with
  | none => .error opcode
  | some row => .ok (fetchOperand row opcode.2)

end Sys2Proof.Machine
end

