-- ==== Sys2Proof/Machine/Step.lean ====
section
/-! DEFINITION. One step (40_step_fetch_decode.md R70) and the placing of an instruction where the next step fetches. -/

namespace Sys2Proof.Machine

/-- R70 `step()`: fetch and decode; an unassigned opcode raises `IllegalOpcode` (R201), an instruction is executed. -/
def step (s : State) : Host.Outcome State Fault Refusal :=
  match fetchInstr s with
  | .error (opcode, t) => raiseIllegalOpcode opcode t
  | .ok (instr, t) => exec instr t

/-- `s` with the bytes of a table word stored at PC (three bytes, zero above `nbits`), as a host `load` at PC would
store them (70_reset_and_hazards.md R233, R234). -/
def State.withFetchWord (s : State) (nbits w : Nat) : State :=
  s.memWriteBytes s.pc [tableByte nbits w 0, tableByte nbits w 1, tableByte nbits w 2]

end Sys2Proof.Machine
end

