-- ==== Sys2Proof/Machine/Access.lean ====
section
/-! DEFINITION. The memory accesses of a step, in order (20_memory.md R36, R46; 92_eei_decisions.md D14): every access
moves one byte. The accesses are not state (10_state.md R20): they are read off the instruction and the state. -/

namespace Sys2Proof.Machine

/-- One access of one byte through the memory port (R31, R36). -/
inductive Access where
  | read (addr : Word)
  | write (addr : Word)
  deriving DecidableEq, Repr

/-- The address an access touches. -/
def Access.addr : Access → Word
  | .read a => a
  | .write a => a

/-- R46 (1) to (3): the opcode at PC, then the operand bytes the opcode selects, none for an unassigned opcode. -/
def fetchAccesses (s : State) : List Access :=
  match (decodeOpcode (s.memRead s.pc)).map Row.operandBytes with
  | some 1 => [.read s.pc, .read (s.pc + 1)]
  | some 2 => [.read s.pc, .read (s.pc + 1), .read (s.pc + 2)]
  | _ => [.read s.pc]

/-- The two reads of a zero-page pointer, low byte first (R46 (4)). -/
def zpPointerAccesses (ptr : Byte) : List Access :=
  [.read (eaZp ptr), .read (zpPointerHigh Config.zpPointerWrap ptr)]

/-- R46 (4): the pointer bytes of `(zp,X)`, `(zp),Y` and `JMP (ind)`. -/
def pointerAccesses (instr : Instr) (s : State) : List Access :=
  match instr.view.mode, instr.view.operand with
  | .indx, .byte o => zpPointerAccesses (o + s.x)
  | .indy, .byte o => zpPointerAccesses o
  | .ind, .word p => [.read p, .read (jmpPointerHigh Config.jmpIndPageWrap p)]
  | _, _ => []

/-- How an operation uses its effective address or the stack (the table of R36). -/
def dataAccesses (instr : Instr) (s : State) : List Access :=
  let ea := (effectiveAddress instr s).toList
  match instr.op with
  | .lda | .ldx | .ldy | .and | .eor | .ora | .adc | .sbc | .cmp | .cpx | .cpy | .bit => ea.map .read
  | .sta | .stx | .sty => ea.map .write
  | .inc | .dec | .asl | .lsr | .rol | .ror => ea.map .read ++ ea.map .write
  | .pha | .php => [.write (stackAddr s.sp)]
  | .pla | .plp => [.read (stackAddr (s.sp + 1))]
  | .jsr => [.write (stackAddr s.sp), .write (stackAddr (s.sp - 1))]
  | .rts => [.read (stackAddr (s.sp + 1)), .read (stackAddr (s.sp + 2))]
  | .inx | .iny | .dex | .dey | .tax | .tay | .txa | .tya | .tsx | .txs => []
  | .jmp | .bcc | .bcs | .beq | .bne | .bmi | .bpl | .bvc | .bvs => []
  | .clc | .sec | .cli | .sei | .clv | .cld | .sed | .nop | .brk => []

/-- The accesses of the execute phase, `s` being the state in which it runs (PC past the instruction). -/
def execAccesses (instr : Instr) (s : State) : List Access :=
  pointerAccesses instr s ++ dataAccesses instr s

/-- All accesses of the step from `s`, in order (R46). -/
def stepAccesses (s : State) : List Access :=
  match fetchInstr s with
  | .error _ => fetchAccesses s
  | .ok (instr, t) => fetchAccesses s ++ execAccesses instr t

/-- The addresses that the accesses of a list read. -/
def readAddrs : List Access → List Word
  | [] => []
  | .read a :: rest => a :: readAddrs rest
  | .write _ :: rest => readAddrs rest

/-- The addresses that the accesses of a list write. -/
def writeAddrs : List Access → List Word
  | [] => []
  | .read _ :: rest => writeAddrs rest
  | .write a :: rest => a :: writeAddrs rest

end Sys2Proof.Machine
end

