-- ==== Sys2Proof/Machine/HostOps.lean ====
section
/-! DEFINITION. The host interface of 70_reset_and_hazards.md R235: what the host does between steps, and the run loop
(40_step_fetch_decode.md R78). Observation needs no operation: every field of State can be read (00_scope.md R3). -/

namespace Sys2Proof.Machine

/-- R235 `new` / power-on: the register file at its reset values over an all-zero memory, PC the `RESET_PC` the host
gives, if it gives one, and this hardware's 0x0400 if not (R5, R230, R232). -/
def hostPowerOn (resetPc : Option Word) : State :=
  { State.reset with pc := resetPc.getD Config.resetPc }

/-- R230 `reset`: the register file to its reset values; memory is neither read nor written (R232). -/
def hostReset (s : State) : State :=
  { State.reset with mem := s.mem }

/-- R233 `load(addr, bytes)`: copy the bytes into memory, no register changes; refused if they would pass 0xFFFF
(D16). -/
def hostLoad (r : LoadRequest) (s : State) : StepResult :=
  if r.wellFormed then .next (s.memWriteBytes r.addr r.bytes)
  else .refused (.loadPastEnd r.addr r.bytes.length)

/-- R235 modify, registers: the registers and flags of `regs`, memory as it is. -/
def hostWriteRegs (regs s : State) : State :=
  { regs with mem := s.mem }

/-- R235 modify, memory: one byte. -/
def hostWriteByte (addr : Word) (v : Byte) (s : State) : State :=
  s.memWrite addr v

/-- R231: what a host that wants the real chip's reset does, `PC <- MemReadWord(0xFFFC)` after a reset. -/
def hostResetThroughVector (s : State) : State :=
  { hostReset s with pc := s.memReadWord 0xFFFC }

/-- R78 `run()` under the host's bound of `n` steps: it ends at the first halting condition, or after `n` steps. -/
def hostRun : Nat → State → StepResult
  | 0, s => .next s
  | n + 1, s =>
    match step s with
    | .next t => hostRun n t
    | .fault f => .fault f
    | .refused r => .refused r

/-- R78, R240: the unbounded run from `s` ends with the halting condition `f`. -/
def RunEndsWith (s : State) (f : Fault) : Prop :=
  ∃ n, hostRun n s = .fault f

/-- R80: the unbounded run from `s` never ends. -/
def RunsForever (s : State) : Prop :=
  ∀ n, ∃ t, hostRun n s = .next t

/-- The operations of R235 that act on the machine, each between steps (R4). -/
inductive HostOp where
  | powerOn (resetPc : Option Word)
  | reset
  | load (request : LoadRequest)
  | step
  | run (bound : Nat)
  | writeRegs (regs : State)
  | writeByte (addr : Word) (v : Byte)
  deriving DecidableEq, Repr

/-- Perform one host operation. -/
def hostAct : HostOp → State → StepResult
  | .powerOn resetPc, _ => .next (hostPowerOn resetPc)
  | .reset, s => .next (hostReset s)
  | .load r, s => hostLoad r s
  | .step, s => step s
  | .run n, s => hostRun n s
  | .writeRegs regs, s => .next (hostWriteRegs regs s)
  | .writeByte addr v, s => .next (hostWriteByte addr v s)

end Sys2Proof.Machine
end

