-- ==== Sys2Proof/Safety.lean ====
section
/-! DEFINITION. The invariant every step keeps, and what counts as a safe run. Neither says that a program did what
its author meant: R240 lists what the end of a run does not say. -/

namespace Sys2Proof

/-- The machine's invariant: the memory is in canonical form. Every other field holds only legal values by its type
(10_state.md R11 to R14). -/
abbrev Inv (s : Machine.State) : Prop :=
  Machine.Memory.wf s.mem

/-- A run that meets no unassigned opcode: it goes on for ever or ends with `Break` (60_exceptions.md R210). -/
def SafeRun (s : Machine.State) : Prop :=
  ∀ n opcode halted, Machine.hostRun n s ≠ .fault (.illegalOpcode opcode halted)

end Sys2Proof
end

