-- ==== Sys2Proof/Certificates/Slice0/Obligations.lean ====
section
/-! DEFINITION. The statements for the provers, each from the spec's rules. Opcode byte values and operand-form lists
are the spec's own decision D1, the flags of loads and transfers D2, NOP D3, the order of push and pull D5, the
zero-page pointer D6, the JMP page wrap D7, SBC D8, PLP D9, BRK D10, reset and memory D11 and D12, the access order D14
and the refused load D16 (92_eei_decisions.md); the direction and fill of the shifts are general knowledge K7, the flag each
branch tests K8 (93_implementation_defined.md): a statement that rests on one of them has basis 'derived'. -/

namespace Sys2Proof.Claims

open Sys2Proof Sys2Proof.Machine

/-! ### Words that the statements share -/

/-- The registers and flags of the two states agree; their memories may differ. -/
def SameRegisters (s t : State) : Prop :=
  { s with mem := [] } = { t with mem := [] }

/-- R17 in numbers: N says that the byte is at least 128, Z that it is 0. -/
def withNZ (value : Byte) (s : State) : State :=
  { s with n := decide (128 ≤ value.toNat), z := decide (value.toNat = 0) }

/-- `b` in a sum: 1 if set, 0 if clear. -/
def bitInt (b : Bool) : Int :=
  if b then 1 else 0

/-- The exact signed value of an integer leaves the range -128..127 of a byte. -/
def outOfSignedRange (value : Int) : Prop :=
  value < -128 ∨ 127 < value

/-- R130 to R133 in numbers (directions and zero fill by K7, log entry 14): the result and the carry out for a byte and a
carry in; none for other operations. -/
def shiftOf : Op → Nat → Nat → Option (Nat × Bool)
  | .asl, value, _ => some (2 * value % 256, decide (128 ≤ value))
  | .lsr, value, _ => some (value / 2, decide (value % 2 = 1))
  | .rol, value, carry => some (2 * value % 256 + carry, decide (128 ≤ value))
  | .ror, value, carry => some (value / 2 + 128 * carry, decide (value % 2 = 1))
  | _, _, _ => none

/-- The table of R162 (K8, log entry 2): the condition under which a branch is taken; none for other operations. -/
def branchTaken : Op → State → Option Bool
  | .bpl, s => some (!s.n)
  | .bmi, s => some s.n
  | .bvc, s => some (!s.v)
  | .bvs, s => some s.v
  | .bcc, s => some (!s.c)
  | .bcs, s => some s.c
  | .bne, s => some (!s.z)
  | .beq, s => some s.z
  | _, _ => none

/-- The net effect on SP of each operation, the list of R75. -/
def nextSp (op : Op) (s : State) : Byte :=
  match op with
  | .pha | .php => s.sp - 1
  | .pla | .plp => s.sp + 1
  | .jsr => s.sp - 2
  | .rts => s.sp + 2
  | .txs => s.x
  | _ => s.sp

/-- The byte of memory that the stack pointer value `sp` denotes (R12). -/
def stackByte (s : State) (sp : Byte) : Byte :=
  s.memRead (stackAddr sp)

/-- The table of R74: PC after a step that executes `instr` from the state `s` before its fetch. -/
def nextPc (instr : Instr) (s : State) : Word :=
  match instr.op, instr.mode, instr.view.operand with
  | .jmp, .abs, .word target => target
  | .jmp, .ind, .word ptr => jmpIndTarget ptr s
  | .jsr, _, .word target => target
  | .rts, _, _ => wordOf (stackByte s (s.sp + 2)) (stackByte s (s.sp + 1))
  | op, _, .byte off =>
    match branchTaken op s with
    | some true => BitVec.ofInt 16 (s.pc.toNat + 2 + off.toInt)
    | _ => s.pc + BitVec.ofNat 16 instr.length
  | _, _, _ => s.pc + BitVec.ofNat 16 instr.length

/-- The operations that R99's helper applies to memory or to A. -/
def modifyingOps : List Op :=
  [.inc, .dec, .asl, .lsr, .rol, .ror]

/-- R22: the operations that write N. -/
def writersN : List Op :=
  [.lda, .ldx, .ldy, .tax, .tay, .txa, .tya, .tsx, .pla, .and, .eor, .ora, .adc, .sbc, .inc, .dec, .inx, .iny, .dex,
    .dey, .asl, .lsr, .rol, .ror, .cmp, .cpx, .cpy, .bit, .plp]

/-- R22: the operations that write C. -/
def writersC : List Op :=
  [.adc, .sbc, .cmp, .cpx, .cpy, .asl, .lsr, .rol, .ror, .sec, .clc, .plp]

/-- R10: the operations that write A (the shifts in accumulator mode only). -/
def writersA : List Op :=
  [.lda, .pla, .txa, .tya, .and, .eor, .ora, .adc, .sbc]

/-- Apply a change of the state to a step's outcome, also to the state a halting condition carries. -/
def mapOutcome (change : State → State) : StepResult → StepResult
  | .next s => .next (change s)
  | .fault (.brk s) => .fault (.brk (change s))
  | .fault (.illegalOpcode opcode s) => .fault (.illegalOpcode opcode (change s))
  | .refused r => .refused r

/-- The unassigned bytes of R54 below 0x80. -/
def unassignedLow : List Byte :=
  [0x02, 0x03, 0x04, 0x07, 0x0B, 0x0C, 0x0F, 0x12, 0x13, 0x14, 0x17, 0x1A, 0x1B, 0x1C, 0x1F, 0x22,
   0x23, 0x27, 0x2B, 0x2F, 0x32, 0x33, 0x34, 0x37, 0x3A, 0x3B, 0x3C, 0x3F, 0x40, 0x42, 0x43, 0x44,
   0x47, 0x4B, 0x4F, 0x52, 0x53, 0x54, 0x57, 0x5A, 0x5B, 0x5C, 0x5F, 0x62, 0x63, 0x64, 0x67, 0x6B,
   0x6F, 0x72, 0x73, 0x74, 0x77, 0x7A, 0x7B, 0x7C, 0x7F]

/-- The unassigned bytes of R54 from 0x80 on. -/
def unassignedHigh : List Byte :=
  [0x80, 0x82, 0x83, 0x87, 0x89, 0x8B, 0x8F, 0x92, 0x93, 0x97, 0x9B, 0x9C, 0x9E, 0x9F, 0xA3, 0xA7,
   0xAB, 0xAF, 0xB2, 0xB3, 0xB7, 0xBB, 0xBF, 0xC2, 0xC3, 0xC7, 0xCB, 0xCF, 0xD2, 0xD3, 0xD4, 0xD7,
   0xDA, 0xDB, 0xDC, 0xDF, 0xE2, 0xE3, 0xE7, 0xEB, 0xEF, 0xF2, 0xF3, 0xF4, 0xF7, 0xFA, 0xFB, 0xFC,
   0xFF]

/-- The 106 opcode bytes that R54 lists. -/
def unassignedOpcodes : List Byte :=
  unassignedLow ++ unassignedHigh

end Sys2Proof.Claims

open Sys2Proof Sys2Proof.Machine Sys2Proof.Claims

/-! ### Encoding (30_encoding.md) -/

/-- R50 to R53 (D1): encoding an instruction and decoding the bytes gives it back, whatever bytes follow. Every
instruction is well-formed by type, so none is left out. The opcode table is the spec's decisions D1 to D4 (log entry
2). -/
def Obligations.DecodeOfEncodeIsIdentity : Prop :=
  ∀ (instr : Instr) (rest : List Byte), decodeBytes (encode instr ++ rest) = .ok (instr, rest)

/-- R50 to R53 (D1): bytes that decode to an instruction are its encoding, followed by the bytes left over. The opcode
table is the spec's decisions D1 to D4 (log entry 2). -/
def Obligations.EncodeOfDecodeIsIdentity : Prop :=
  ∀ (bytes : List Byte) (instr : Instr) (rest : List Byte),
    decodeBytes bytes = .ok (instr, rest) → encode instr ++ rest = bytes

/-- R50, R53 Table A (D1): for each family, one word written out as the table and the formats give it. The opcode
table is the spec's decisions D1 to D4 (log entry 2). -/
def Obligations.TableWordsDecodeAsTabulated : Prop :=
  decodeTableWord 16 0x3C29 = some (.andImm 0x3C) ∧ decodeTableWord 24 0x1234FE = some (.incAbsx 0x1234) ∧
    decodeTableWord 16 0x20F1 = some (.sbcIndy 0x20) ∧ decodeTableWord 8 0x6A = some .rorAcc ∧
    decodeTableWord 16 0x10B6 = some (.ldxZpy 0x10) ∧ decodeTableWord 24 0x03006C = some (.jmpInd 0x0300) ∧
    decodeTableWord 16 0xFAD0 = some (.bne 0xFA) ∧ decodeTableWord 8 0x28 = some .plp ∧
    decodeTableWord 8 0x00 = some .brk ∧ decodeTableWord 8 0x40 = none

/-! ### Memory and the stack (20_memory.md) -/

/-- R31: after `MemWrite(addr, 1, v)` the address reads `v`, every other address reads as before, and no register
changes. In every state, canonical memory or not. -/
def Obligations.MemoryPortStoresOneByte : Prop :=
  ∀ (s : State) (addr : Word) (v : Byte),
    (s.memWrite addr v).memRead addr = v ∧
      (∀ other, other ≠ addr → (s.memWrite addr v).memRead other = s.memRead other) ∧
      SameRegisters (s.memWrite addr v) s

/-- The model's own form of memory (log entry 1): two canonical memories that read alike at every address are the same
list. -/
def Obligations.CanonicalMemoriesThatReadAlikeAreEqual : Prop :=
  ∀ m m' : Memory, Memory.wf m → Memory.wf m' → (∀ addr, m.readCell addr = m'.readCell addr) → m = m'

/-- R33, R34: words are little-endian, the second address is taken modulo 65536, and a word written is read back while
every other byte stays. -/
def Obligations.WordsAreLittleEndianAndWrap : Prop :=
  ∀ (s : State) (addr w : Word),
    (s.memReadWord addr).toNat =
        256 * (s.memRead (BitVec.ofNat 16 (addr.toNat + 1))).toNat + (s.memRead addr).toNat ∧
      s.memReadWord 0xFFFF = wordOf (s.memRead 0x0000) (s.memRead 0xFFFF) ∧
      (s.memWriteWord addr w).memReadWord addr = w ∧
      (s.memWriteWord addr w).memRead addr = loByte w ∧
      ∀ other, other ≠ addr → other ≠ addr + 1 → (s.memWriteWord addr w).memRead other = s.memRead other

/-- R38, R39 (D5): a word pushed and pulled comes back and SP nets to its value, for every SP; the high byte lies at
`0x0100 + SP`, the low byte at `0x0100 + ((SP - 1) mod 256)`, and no other byte changes. D5 is log entry 3. -/
def Obligations.PushedWordIsPulledBack : Prop :=
  ∀ (s : State) (w : Word),
    (s.pushWord w).pullWord = (w, { s with mem := (s.pushWord w).mem }) ∧
      (s.pushWord w).memRead (stackAddr s.sp) = hiByte w ∧
      (s.pushWord w).memRead (stackAddr (s.sp - 1)) = loByte w ∧
      ∀ other, other ≠ stackAddr s.sp → other ≠ stackAddr (s.sp - 1) →
        (s.pushWord w).memRead other = s.memRead other

/-- R12, R38 (D5): the stack address is `0x0100 + SP`, inside the stack page for every SP; a push from 0x00 writes
0x0100 and leaves 0xFF, a pull from 0xFF reads 0x0100 and leaves 0x00. D5 is log entry 3. -/
def Obligations.StackPointerWrapsInsideItsPage : Prop :=
  ∀ (s : State) (v : Byte),
    (stackAddr s.sp).toNat = 0x0100 + s.sp.toNat ∧
      (s.sp = 0x00 → (s.push v).sp = 0xFF ∧ (s.push v).memRead 0x0100 = v) ∧
      (s.sp = 0xFF → s.pull = (s.memRead 0x0100, { s with sp := 0x00 }))

/-! ### Reset and the invariant -/

/-- R21, R230, R232 (D11, D12): reset writes the whole register file with its reset values, whatever the state was,
and leaves memory alone; the packed status is then 0x00. Power-on (R235) is the same register file over an all-zero
memory, with PC the `RESET_PC` the host gives, if it gives one. D11 and D12 are log entry 9. That a reset leaves PC at
0x0400 also after a power-on with another `RESET_PC` is the model's choice (DESIGN CHOICE, log entry 11). -/
def Obligations.ResetWritesTheRegisterFile : Prop :=
  (∀ s : State, ∃ t, hostAct .reset s = .next t ∧ t.pc = 0x0400 ∧ t.sp = 0xFF ∧ t.a = 0 ∧ t.x = 0 ∧ t.y = 0 ∧
      t.n = false ∧ t.v = false ∧ t.b = false ∧ t.d = false ∧ t.i = false ∧ t.z = false ∧ t.c = false ∧
      pack t = 0x00 ∧ ∀ addr, t.memRead addr = s.memRead addr) ∧
    (∀ (s : State) (given : Option Word), ∃ t, hostAct (.powerOn given) s = .next t ∧ t.pc = given.getD 0x0400 ∧
      SameRegisters t { hostReset s with pc := t.pc } ∧ ∀ addr, t.memRead addr = 0x00) ∧
    hostAct (.powerOn none) State.reset = .next State.reset

/-- The invariant holds after power-on (R41; log entry 1). -/
def Obligations.PowerOnMemoryIsCanonical : Prop :=
  Inv State.reset

/-- The model's invariant (log entry 1) is kept by every step, from every state that has it. -/
def Obligations.StepKeepsMemoryCanonical : Prop :=
  ∀ s t : State, Inv s → step s = .next t → Inv t

/-- The model's invariant (log entry 1) is kept by every host operation of R235. The form of the operations is the
model's choice (log entry 11). -/
def Obligations.HostOperationsKeepMemoryCanonical : Prop :=
  ∀ (op : HostOp) (s t : State), Inv s → hostAct op s = .next t → Inv t

/-! ### The address resolver (41_addressing_modes.md) -/

/-- R85 to R88: the immediate form delivers its operand and has no address; the forms with an address deliver the byte
there; the implied and accumulator forms have no operand bytes and deliver none. -/
def Obligations.ReadOperandDeliversTheByte : Prop :=
  ∀ (instr : Instr) (s : State),
    (instr.mode = .imm → ∃ m, instr.view.operand = .byte m ∧ readOperand instr s = some m ∧
      effectiveAddress instr s = none ∧ instr.length = 2) ∧
    (∀ ea, effectiveAddress instr s = some ea → readOperand instr s = some (s.memRead ea)) ∧
    (instr.mode ∈ [.imp, .acc] → instr.view.operand = .absent ∧ readOperand instr s = none ∧ instr.length = 1)

/-- R89 to R94: the forms without a pointer, with their lengths. The zero-page sums are taken modulo 256, the absolute
ones modulo 65536; only LDX and STX have the form `zpy`. Which mnemonics have a form is the spec's decision D1 (log
entry 2). -/
def Obligations.DirectFormsComputeTheirAddress : Prop :=
  ∀ (instr : Instr) (s : State),
    (instr.mode = .zp → ∃ o ea, instr.view.operand = .byte o ∧ effectiveAddress instr s = some ea ∧
      ea.toNat = o.toNat ∧ instr.length = 2) ∧
    (instr.mode = .zpx → ∃ o ea, instr.view.operand = .byte o ∧ effectiveAddress instr s = some ea ∧
      ea.toNat = (o.toNat + s.x.toNat) % 256 ∧ instr.length = 2) ∧
    (instr.mode = .zpy → ∃ o ea, instr.view.operand = .byte o ∧ effectiveAddress instr s = some ea ∧
      ea.toNat = (o.toNat + s.y.toNat) % 256 ∧ instr.length = 2 ∧ instr.op ∈ [.ldx, .stx]) ∧
    (instr.mode = .abs → ∃ w ea, instr.view.operand = .word w ∧ effectiveAddress instr s = some ea ∧
      ea = w ∧ instr.length = 3) ∧
    (instr.mode = .absx → ∃ w ea, instr.view.operand = .word w ∧ effectiveAddress instr s = some ea ∧
      ea.toNat = (w.toNat + s.x.toNat) % 65536 ∧ instr.length = 3) ∧
    (instr.mode = .absy → ∃ w ea, instr.view.operand = .word w ∧ effectiveAddress instr s = some ea ∧
      ea.toNat = (w.toNat + s.y.toNat) % 65536 ∧ instr.length = 3)

/-- R95, R96 (D6): the pointer forms. The pointer's high byte is read inside page zero on this hardware; with
`ZP_POINTER_WRAP` false it would be read at the next address. D6 is log entry 4. -/
def Obligations.ZeroPagePointerFormsComputeTheirAddress : Prop :=
  (∀ (instr : Instr) (s : State),
    (instr.mode = .indx → ∃ o ea, instr.view.operand = .byte o ∧ effectiveAddress instr s = some ea ∧
      ea.toNat =
        256 * (s.memRead (BitVec.ofNat 16 ((o.toNat + s.x.toNat + 1) % 256))).toNat +
          (s.memRead (BitVec.ofNat 16 ((o.toNat + s.x.toNat) % 256))).toNat) ∧
    (instr.mode = .indy → ∃ o ea, instr.view.operand = .byte o ∧ effectiveAddress instr s = some ea ∧
      ea.toNat =
        (256 * (s.memRead (BitVec.ofNat 16 ((o.toNat + 1) % 256))).toNat +
          (s.memRead (BitVec.ofNat 16 o.toNat)).toNat + s.y.toNat) % 65536)) ∧
    ∀ ptr : Byte, (zpPointerHigh true ptr).toNat = (ptr.toNat + 1) % 256 ∧
      (zpPointerHigh false ptr).toNat = ptr.toNat + 1

/-- R97 (D7): the target of `JMP (ind)`, the high byte from the start of the pointer's page when the pointer's low
byte is 0xFF; with `JMP_IND_PAGE_WRAP` false it would come from the next address modulo 65536. D7 is log entry 4. -/
def Obligations.JumpIndirectKeepsInsideThePage : Prop :=
  ∀ (s : State) (ptr : Word),
    (jmpIndTarget ptr s).toNat =
        256 * (s.memRead (BitVec.ofNat 16
            (if ptr.toNat % 256 = 255 then ptr.toNat - 255 else ptr.toNat + 1))).toNat +
          (s.memRead ptr).toNat ∧
      (jmpPointerHigh false ptr).toNat = (ptr.toNat + 1) % 65536

/-- R98: the relative form is that of the eight branches and has length 2; the target is PC plus the signed offset, which is
PC plus the sign-extended offset, modulo 65536; PC is then the address after the branch. A branch that is taken goes to the
target, one that is not leaves PC, and no flag, no other register and no byte of memory changes. Which flag and value
take a branch is the table of R162, which the spec marks as general knowledge (K8; log entry 2). -/
def Obligations.RelativeTargetIsSigned : Prop :=
  (∀ (pc : Word) (off : Byte),
      ((relTarget pc off).toNat : Int) = (pc.toNat + off.toInt) % 65536 ∧
        (relTarget pc off).toNat =
          (pc.toNat + (if off.toNat < 128 then off.toNat else off.toNat + 0xFF00)) % 65536) ∧
    (∀ instr : Instr, (instr.mode = .rel ↔ instr.op ∈ [.bcc, .bcs, .beq, .bne, .bmi, .bpl, .bvc, .bvs]) ∧
      (instr.mode = .rel → instr.length = 2)) ∧
    ∀ (s t : State) (instr : Instr), fetchInstr s = .ok (instr, t) → instr.mode = .rel →
      t.pc = s.pc + 2 ∧ ∃ off taken, instr.view.operand = .byte off ∧ branchTaken instr.op t = some taken ∧
        step s = .next { t with pc := if taken then relTarget t.pc off else t.pc }

/-! ### What the instructions do. `exec` runs with PC already past the instruction (R73); a post-state written as an
update of `s` says that everything else is unchanged. -/

/-- R100, R101, R102: AND, EOR and ORA complete in every form, with the result in A and N, Z from it. The forms are
the spec's decision D1 (log entry 2). -/
def Obligations.LogicInstructionsCombineIntoA : Prop :=
  ∀ (instr : Instr) (s : State),
    (instr.op = .and → ∃ m, readOperand instr s = some m ∧
      exec instr s = .next (withNZ (s.a &&& m) { s with a := s.a &&& m })) ∧
    (instr.op = .eor → ∃ m, readOperand instr s = some m ∧
      exec instr s = .next (withNZ (s.a ^^^ m) { s with a := s.a ^^^ m })) ∧
    (instr.op = .ora → ∃ m, readOperand instr s = some m ∧
      exec instr s = .next (withNZ (s.a ||| m) { s with a := s.a ||| m }))

/-- R103: BIT completes in both forms; Z from `A & m`, N and V from bits 7 and 6 of `m` whatever A holds. The forms
are the spec's decision D1 (log entry 2). -/
def Obligations.BitTestReadsFlagsFromMemory : Prop :=
  ∀ (instr : Instr) (s : State), instr.op = .bit → ∃ m, readOperand instr s = some m ∧
    exec instr s = .next { s with
      z := decide (s.a &&& m = 0), n := decide (128 ≤ m.toNat), v := decide (64 ≤ m.toNat % 128) }

/-- R107: `Compare(r, m)`; C says `r >= m` unsigned, N is bit 7 of the difference modulo 256, Z says `r = m`; the carry in
has no influence; nothing else is written. The rule's example: 0x01 against 0x84 gives N = 0. -/
def Obligations.CompareSetsCarryNegativeZero : Prop :=
  (∀ (r m : Byte) (s : State),
      compareFlags r m s = { s with
        c := decide (m.toNat ≤ r.toNat)
        n := decide (128 ≤ (r.toNat + 256 - m.toNat) % 256)
        z := decide (r = m) } ∧
      ∀ carry, compareFlags r m { s with c := carry } = compareFlags r m s) ∧
    ∀ s : State, (compareFlags 0x01 0x84 s).n = false

/-- R104, R105, R106: CMP, CPX and CPY complete in every form; C, N and Z as R107 says of A, X and Y. The forms are
the spec's decision D1 (log entry 2). -/
def Obligations.CompareInstructionsCompareTheirRegister : Prop :=
  ∀ (instr : Instr) (s : State) (r : Byte), (instr.op, r) ∈ [(.cmp, s.a), (.cpx, s.x), (.cpy, s.y)] →
    ∃ m, readOperand instr s = some m ∧
      exec instr s = .next { s with
        c := decide (m.toNat ≤ r.toNat)
        n := decide (128 ≤ (r.toNat + 256 - m.toNat) % 256)
        z := decide (r = m) }

/-- R120: `AddWithCarry(m)`; with `t = A + m + C` as an integer, A becomes `t mod 256`, C says `t > 255`, N and Z come
from the result, and V is the rule's expression over A before the write, equal to both of its other readings. -/
def Obligations.AdderComputesSumCarryOverflow : Prop :=
  ∀ (m : Byte) (s : State),
    let t := s.a.toNat + m.toNat + s.c.toNat
    let r : Byte := BitVec.ofNat 8 t
    ∃ overflow, addWithCarry m s = withNZ r { s with a := r, c := decide (255 < t), v := overflow } ∧
      (overflow = true ↔ (s.a ^^^ r) &&& (m ^^^ r) &&& 0x80 ≠ 0) ∧
      (overflow = true ↔ s.a.msb = m.msb ∧ r.msb ≠ s.a.msb) ∧
      (overflow = true ↔ outOfSignedRange (s.a.toInt + m.toInt + bitInt s.c))

/-- R121, R123: ADC completes in every form: the sum and its carry in plain integers, V by the signed range, and D not
read. The forms are the spec's decision D1 (log entry 2). -/
def Obligations.AdcAddsWithCarry : Prop :=
  ∀ (instr : Instr) (s : State), instr.op = .adc → ∃ m r overflow, readOperand instr s = some m ∧
    r.toNat = (s.a.toNat + m.toNat + s.c.toNat) % 256 ∧
    (overflow = true ↔ outOfSignedRange (s.a.toInt + m.toInt + bitInt s.c)) ∧
    exec instr s = .next (withNZ r
      { s with a := r, c := decide (255 < s.a.toNat + m.toNat + s.c.toNat), v := overflow })

/-- R122, R123 (D8): SBC completes in every form: `A - m - (1 - C)` modulo 256, C says that there was no borrow, V by
the signed range, and D not read. The forms are the spec's decision D1 (log entry 2). D8 is log entry 5. -/
def Obligations.SbcSubtractsWithBorrow : Prop :=
  ∀ (instr : Instr) (s : State), instr.op = .sbc → ∃ m r overflow, readOperand instr s = some m ∧
    (r.toNat : Int) = (s.a.toNat - m.toNat - (1 - bitInt s.c)) % 256 ∧
    (overflow = true ↔ outOfSignedRange (s.a.toInt - m.toInt - (1 - bitInt s.c))) ∧
    exec instr s = .next (withNZ r
      { s with a := r, c := decide ((m.toNat : Int) + (1 - bitInt s.c) ≤ s.a.toNat), v := overflow })

/-- R110, R111, R99: INC and DEC complete in every form: the byte at `ea` plus or minus one modulo 256, N and Z from
the new value, C and every register kept, no other byte written. The forms are the spec's decision D1 (log entry 2).
-/
def Obligations.IncAndDecModifyOneByte : Prop :=
  ∀ (instr : Instr) (s : State) (delta : Int), (instr.op, delta) ∈ [(Op.inc, (1 : Int)), (.dec, -1)] →
    ∃ ea t, effectiveAddress instr s = some ea ∧ exec instr s = .next t ∧
      t.memRead ea = BitVec.ofInt 8 ((s.memRead ea).toNat + delta) ∧
      SameRegisters t (withNZ (BitVec.ofInt 8 ((s.memRead ea).toNat + delta)) s) ∧
      ∀ other, other ≠ ea → t.memRead other = s.memRead other

/-- R112 to R115: INX, INY, DEX and DEY complete: plus or minus one modulo 256, N and Z from the new value, C kept. -/
def Obligations.IndexRegistersCountModulo256 : Prop :=
  ∀ s : State,
    exec .inx s = .next (withNZ (BitVec.ofNat 8 (s.x.toNat + 1)) { s with x := BitVec.ofNat 8 (s.x.toNat + 1) }) ∧
      exec .iny s = .next (withNZ (BitVec.ofNat 8 (s.y.toNat + 1)) { s with y := BitVec.ofNat 8 (s.y.toNat + 1) }) ∧
      exec .dex s =
        .next (withNZ (BitVec.ofNat 8 (s.x.toNat + 255)) { s with x := BitVec.ofNat 8 (s.x.toNat + 255) }) ∧
      exec .dey s =
        .next (withNZ (BitVec.ofNat 8 (s.y.toNat + 255)) { s with y := BitVec.ofNat 8 (s.y.toNat + 255) })

/-- R130 to R133, R99, R87: ASL, LSR, ROL and ROR complete in accumulator mode, with the result in A, C the bit
shifted out, N and Z from the result. The forms are the spec's decision D1 (log entry 2). The direction of each shift
and the zero that ASL and LSR fill in are general knowledge (K7; log entry 14). -/
def Obligations.ShiftsOfTheAccumulator : Prop :=
  ∀ (instr : Instr) (s : State), instr.mode = .acc →
    ∃ r carry, shiftOf instr.op s.a.toNat s.c.toNat = some (r, carry) ∧ r < 256 ∧
      exec instr s =
        .next (withNZ (BitVec.ofNat 8 r) { s with a := BitVec.ofNat 8 r, c := carry })

/-- R130 to R133, R99: ASL, LSR, ROL and ROR complete in every memory form: one byte changed, at `ea`, C the bit
shifted out, N and Z from the result, no register changed. The forms are the spec's decision D1 (log entry 2). The
direction of each shift and the zero that ASL and LSR fill in are general knowledge (K7; log entry 14). -/
def Obligations.ShiftsOfMemory : Prop :=
  ∀ (instr : Instr) (s : State), instr.op ∈ [.asl, .lsr, .rol, .ror] → instr.mode ≠ .acc →
    ∃ ea r carry t, effectiveAddress instr s = some ea ∧
      shiftOf instr.op (s.memRead ea).toNat s.c.toNat = some (r, carry) ∧ r < 256 ∧ exec instr s = .next t ∧
      t.memRead ea = BitVec.ofNat 8 r ∧ SameRegisters t (withNZ (BitVec.ofNat 8 r) { s with c := carry }) ∧
      ∀ other, other ≠ ea → t.memRead other = s.memRead other

/-- R140, R141, R142 (flags by D2): LDA, LDX and LDY complete in every form, N and Z from the value loaded. The forms
are the spec's decision D1 (log entry 2). D2 is log entry 2. -/
def Obligations.LoadsWriteTheirRegister : Prop :=
  ∀ (instr : Instr) (s : State),
    (instr.op = .lda → ∃ m, readOperand instr s = some m ∧ exec instr s = .next (withNZ m { s with a := m })) ∧
    (instr.op = .ldx → ∃ m, readOperand instr s = some m ∧ exec instr s = .next (withNZ m { s with x := m })) ∧
    (instr.op = .ldy → ∃ m, readOperand instr s = some m ∧ exec instr s = .next (withNZ m { s with y := m }))

/-- R143, R144, R145 (flags by D2): STA, STX and STY complete in every form: the register at `ea`, every other byte,
every register and every flag unchanged. The forms are the spec's decision D1 (log entry 2). D2 is log entry 2. -/
def Obligations.StoresWriteOneByte : Prop :=
  ∀ (instr : Instr) (s : State) (r : Byte), (instr.op, r) ∈ [(.sta, s.a), (.stx, s.x), (.sty, s.y)] →
    ∃ ea t, effectiveAddress instr s = some ea ∧ exec instr s = .next t ∧ SameRegisters t s ∧
      t.memRead ea = r ∧ ∀ other, other ≠ ea → t.memRead other = s.memRead other

/-- R146 to R151 (D2): the six transfers complete; N and Z from the value moved, none for TXS. D2 is log entry 2. -/
def Obligations.TransfersCopyARegister : Prop :=
  ∀ s : State,
    exec .tax s = .next (withNZ s.a { s with x := s.a }) ∧ exec .tay s = .next (withNZ s.a { s with y := s.a }) ∧
      exec .txa s = .next (withNZ s.x { s with a := s.x }) ∧ exec .tya s = .next (withNZ s.y { s with a := s.y }) ∧
      exec .tsx s = .next (withNZ s.sp { s with x := s.sp }) ∧ exec .txs s = .next { s with sp := s.x }

/-- R160, R161: both jumps complete and write PC alone; the indirect target is that of
`JumpIndirectKeepsInsideThePage`. The page wrap is the spec's decision D7 (log entry 4). -/
def Obligations.JumpsWriteOnlyThePc : Prop :=
  ∀ (s : State) (w : Word),
    exec (.jmpAbs w) s = .next { s with pc := w } ∧ exec (.jmpInd w) s = .next { s with pc := jmpIndTarget w s }

/-- R162 to R170 (the pairing of mnemonic and flag is the spec's K8): every branch completes, taken or not, and writes
PC alone. K8 is in log entry 2. -/
def Obligations.BranchesTestOneFlag : Prop :=
  ∀ (instr : Instr) (s : State), instr.mode = .rel →
    ∃ off taken, instr.view.operand = .byte off ∧ branchTaken instr.op s = some taken ∧
      exec instr s =
        .next { s with pc := if taken then BitVec.ofInt 16 (s.pc.toNat + off.toInt) else s.pc }

/-- R171 (D5): JSR completes: PC, already past the JSR, pushed high byte first, SP lowered by 2, PC the target, every
other byte and register unchanged. D5 is log entry 3. -/
def Obligations.JsrPushesTheReturnAddress : Prop :=
  ∀ (s : State) (target : Word), ∃ t, exec (.jsr target) s = .next t ∧
    SameRegisters t { s with pc := target, sp := s.sp - 2 } ∧
    t.memRead (stackAddr s.sp) = hiByte s.pc ∧ t.memRead (stackAddr (s.sp - 1)) = loByte s.pc ∧
    ∀ other, other ≠ stackAddr s.sp → other ≠ stackAddr (s.sp - 1) → t.memRead other = s.memRead other

/-- R172 (D5): RTS completes: PC is the word pulled, low byte first, with no adjustment; nothing else but SP changes.
D5 is log entry 3. -/
def Obligations.RtsPullsThePc : Prop :=
  ∀ s : State, exec .rts s =
    .next { s with pc := wordOf (stackByte s (s.sp + 2)) (stackByte s (s.sp + 1)), sp := s.sp + 2 }

/-- R172, example S3: an RTS that meets the stack as a JSR left it returns to the address after the JSR and restores
SP, whatever the subroutine did to PC, A, X, Y and the flags. The order of push and pull is the spec's decision D5
(log entry 3). -/
def Obligations.RtsUndoesTheMatchingJsr : Prop :=
  ∀ (s t u : State) (target : Word), exec (.jsr target) s = .next t → u.sp = t.sp → u.mem = t.mem →
    exec .rts u = .next { u with pc := s.pc, sp := s.sp }

/-- R180, R181, R15 (D5): PHA and PHP complete: the byte at `0x0100 + SP` is A, or `N:V:1:1:D:I:Z:C` whatever B holds;
SP is lowered by 1; every other byte, register and flag is unchanged. That PHA and PHP exist and write no flag is the
spec's decision D2 (log entry 2), that PHP leaves B alone D9 (log entry 6), and the order of storing and lowering SP
D5 (log entry 3). -/
def Obligations.PushesStoreOneByte : Prop :=
  ∀ (s : State) (instr : Instr) (value : Byte),
    (instr, value) ∈ [(.pha, s.a), (.php, BitVec.ofNat 8 (128 * s.n.toNat + 64 * s.v.toNat + 32 + 16 +
      8 * s.d.toNat + 4 * s.i.toNat + 2 * s.z.toNat + s.c.toNat))] →
    ∃ t, exec instr s = .next t ∧ t.memRead (stackAddr s.sp) = value ∧
      SameRegisters t { s with sp := s.sp - 1 } ∧
      ∀ other, other ≠ stackAddr s.sp → t.memRead other = s.memRead other

/-- R182, R183, R16 (D2, D5, D9): PLA and PLP complete: the byte at `0x0100 + ((SP + 1) mod 256)` to A with N and Z,
or to all seven flags with bit 5 dropped; memory is unchanged. D2 is log entry 2, D5 log entry 3, D9 log entry 6. -/
def Obligations.PullsLoadOneByte : Prop :=
  ∀ s : State,
    let p := stackByte s (s.sp + 1)
    exec .pla s = .next (withNZ p { s with a := p, sp := s.sp + 1 }) ∧
      exec .plp s = .next { s with
        sp := s.sp + 1
        n := p.toNat.testBit 7
        v := p.toNat.testBit 6
        b := p.toNat.testBit 4
        d := p.toNat.testBit 3
        i := p.toNat.testBit 2
        z := p.toNat.testBit 1
        c := p.toNat.testBit 0 }

/-- R183 (its derived remark): a PHP and then a PLP restore N, V, D, I, Z, C and SP, and leave B = 1. That PHP and PLP
exist and PHP writes no flag is the spec's decision D2 (log entry 2), the order of push and pull D5 (log entry 3), and
what happens to B D9 (log entry 6). -/
def Obligations.PlpUndoesPhpButSetsB : Prop :=
  ∀ s t : State, exec .php s = .next t →
    ∃ u, exec .plp t = .next u ∧ SameRegisters u { s with b := true } ∧ u.mem = t.mem

/-- R184 to R191 (D2, D3): each flag instruction completes and writes its one flag; NOP completes and writes nothing.
D2 and D3 are log entry 2. -/
def Obligations.FlagInstructionsWriteOneFlag : Prop :=
  ∀ s : State,
    exec .clc s = .next { s with c := false } ∧ exec .sec s = .next { s with c := true } ∧
      exec .cli s = .next { s with i := false } ∧ exec .sei s = .next { s with i := true } ∧
      exec .clv s = .next { s with v := false } ∧ exec .cld s = .next { s with d := false } ∧
      exec .sed s = .next { s with d := true } ∧ exec .nop s = .next s

/-- R200, R214 (D10): BRK stops on every path: PC back by one and nothing else; so a step at a byte 0x00 ends with
`Break` in the state it began in. The byte value is the spec's decision D1 (log entry 2); D10, and the state that the
fault carries, are log entry 7. -/
def Obligations.BrkSignalsBreak : Prop :=
  (∀ s : State, exec .brk s = .fault (.brk { s with pc := s.pc - 1 })) ∧
    ∀ s : State, s.memRead s.pc = 0x00 → step s = .fault (.brk s)

/-! ### Frames: what no instruction but the named ones changes -/

/-- R36 (D14): every form that stores nothing leaves every byte of memory as it was. D14 is log entry 9; which
instructions of the list exist is in part the spec's decision D2 (log entry 2). -/
def Obligations.FormsThatStoreNothingKeepMemory : Prop :=
  ∀ (instr : Instr) (s t : State),
    instr.op ∉ [.sta, .stx, .sty, .pha, .php, .jsr] → (instr.op ∈ modifyingOps → instr.mode = .acc) →
    exec instr s = .next t → ∀ addr, t.memRead addr = s.memRead addr

/-- R36 (D14): a store or a read-modify-write changes no byte but the one at its effective address, and a push or JSR
none but the ones it pushes. D14 is log entry 9. The addresses pushed to are those of R38 and R39, whose order is the
spec's decision D5 (log entry 3). That the stores and pushes exist is D2 (log entry 2). -/
def Obligations.StoringFormsKeepEveryOtherByte : Prop :=
  ∀ (instr : Instr) (s t : State), exec instr s = .next t →
    (∀ ea, instr.op ∈ [.sta, .stx, .sty] ++ modifyingOps → effectiveAddress instr s = some ea →
      ∀ addr, addr ≠ ea → t.memRead addr = s.memRead addr) ∧
    (instr.op ∈ [.pha, .php] → ∀ addr, addr ≠ stackAddr s.sp → t.memRead addr = s.memRead addr) ∧
    (instr.op = .jsr → ∀ addr, addr ≠ stackAddr s.sp → addr ≠ stackAddr (s.sp - 1) →
      t.memRead addr = s.memRead addr)

/-- R10, R13 (the transfers and PLA by D2): A, X and Y are changed by no instruction but the ones the table of R10
names. D2 is log entry 2. -/
def Obligations.RegistersChangeOnlyByTheirWriters : Prop :=
  ∀ (instr : Instr) (s t : State), exec instr s = .next t →
    (instr.op ∉ writersA → instr.mode ≠ .acc → t.a = s.a) ∧
      (instr.op ∉ [.ldx, .tax, .tsx, .inx, .dex] → t.x = s.x) ∧
      (instr.op ∉ [.ldy, .tay, .iny, .dey] → t.y = s.y)

/-- R22 (a table the spec derives from its instruction rules, which rest on D2 and D9): each flag is changed by no
instruction but the ones the table names. D2 is log entry 2, D9 log entry 6. -/
def Obligations.FlagsChangeOnlyByTheirWriters : Prop :=
  ∀ (instr : Instr) (s t : State), exec instr s = .next t →
    (instr.op ∉ writersN → t.n = s.n ∧ t.z = s.z) ∧ (instr.op ∉ [.adc, .sbc, .bit, .clv, .plp] → t.v = s.v) ∧
      (instr.op ≠ .plp → t.b = s.b) ∧ (instr.op ∉ [.sed, .cld, .plp] → t.d = s.d) ∧
      (instr.op ∉ [.sei, .cli, .plp] → t.i = s.i) ∧ (instr.op ∉ writersC → t.c = s.c)

/-- R75 (PHA, PHP, PLA, PLP and TXS by D2, log entry 2; BRK by D10 and the state a fault carries, log entry 7): the net
effect of every step on SP, complete; a step that halts leaves SP unchanged. -/
def Obligations.StackPointerSequencing : Prop :=
  ∀ s : State,
    (∀ instr u t, fetchInstr s = .ok (instr, u) → step s = .next t → t.sp = nextSp instr.op s) ∧
      ∀ f, step s = .fault f → f.halted.sp = s.sp

/-- R74 (RTS by D5, JMP (ind) by D7, BRK by D10): the net effect of every step on PC, complete; a step that halts
leaves PC at the offending byte. Which flag and value take each branch is the table of R162, from general knowledge
(K8; log entry 2). D5 is log entry 3, D7 log entry 4; D10, and the state that a fault carries, are log entry 7. -/
def Obligations.ProgramCounterSequencing : Prop :=
  ∀ s : State,
    (∀ instr u t, fetchInstr s = .ok (instr, u) → step s = .next t → t.pc = nextPc instr s) ∧
      ∀ f, step s = .fault f → f.halted.pc = s.pc

/-! ### The step (40_step_fetch_decode.md) -/

/-- R70: when the bytes at PC decode to an instruction, the step executes that instruction with PC moved past it. -/
def Obligations.StepRunsTheDecodedInstruction : Prop :=
  ∀ (s : State) (instr : Instr) (rest : List Byte),
    decodeBytes [s.memRead s.pc, s.memRead (s.pc + 1), s.memRead (s.pc + 2)] = .ok (instr, rest) →
    step s = exec instr { s with pc := s.pc + BitVec.ofNat 16 instr.length }

/-- R77, R79, R211 (BRK by D10; the fault carries the state, log entry 7): a step that halts carries the state it
began in, and stepping again from there halts the same way. -/
def Obligations.HaltingChangesNothingAndRepeats : Prop :=
  ∀ (s : State) (f : Fault), step s = .fault f → f.halted = s ∧ step (resumeFrom f) = .fault f

/-- R76, R77, R200, R201, R213 (byte values by D1, BRK by D10): the opcode byte alone decides the outcome: `Break` for
0x00 and `IllegalOpcode` with the byte for the 106 listed bytes, each in the state the step began in, and Ok for every
other byte. D1 and D4 (0x40 unassigned) are log entry 2; D10, and the state that a fault carries, are log entry 7. -/
def Obligations.OpcodeByteDecidesTheOutcome : Prop :=
  ∀ s : State,
    (step s = .fault (.brk s) ↔ s.memRead s.pc = 0x00) ∧
      (step s = .fault (.illegalOpcode (s.memRead s.pc) s) ↔ s.memRead s.pc ∈ unassignedOpcodes) ∧
      ((∃ t, step s = .next t) ↔ s.memRead s.pc ≠ 0x00 ∧ s.memRead s.pc ∉ unassignedOpcodes)

/-- R56: instruction bytes wrap around the top of the address space. -/
def Obligations.InstructionBytesWrapAroundTheTop : Prop :=
  ∀ (s : State) (mk : Word → Instr), decodeOpcode (s.memRead s.pc) = some (.op2 mk) →
    (s.pc = 0xFFFF → fetchInstr s =
      .ok (mk (wordOf (s.memRead 0x0001) (s.memRead 0x0000)), { s with pc := 0x0002 })) ∧
    (s.pc = 0xFFFE → fetchInstr s =
      .ok (mk (wordOf (s.memRead 0x0000) (s.memRead 0xFFFF)), { s with pc := 0x0001 }))

/-- R73, R71, R46: the fetch reads the opcode and exactly the operand bytes the opcode selects, in ascending order, and
leaves PC after the last of them; the instruction it delivers has those bytes as its encoding. For an unassigned opcode it
reads the one byte. The list of reads is computed beside the fetch (the model's choice, log entry 10) in the order of the
spec's decision D14 (log entry 9). -/
def Obligations.FetchReadsExactlyTheInstructionBytes : Prop :=
  ∀ s : State,
    (∀ instr t, fetchInstr s = .ok (instr, t) →
      t = { s with pc := s.pc + BitVec.ofNat 16 instr.length } ∧
      encode instr = (List.range instr.length).map (fun k => s.memRead (s.pc + BitVec.ofNat 16 k)) ∧
      fetchAccesses s = (List.range instr.length).map (fun k => Access.read (s.pc + BitVec.ofNat 16 k))) ∧
    ∀ opcode t, fetchInstr s = .error (opcode, t) → opcode = s.memRead s.pc ∧ fetchAccesses s = [.read s.pc]

/-! ### The accesses of a step (20_memory.md R36, R46) -/

/-- R36 (D14): a step depends on no byte but the ones its access list reads: with any other memory that agrees on
those bytes, the step makes the same accesses, has the same outcome and registers, and stores the same bytes. The
lists are computed beside the step (the model's choice, log entry 10) by the spec's decision D14 (log entry 9), with
the stack addresses of D5 (log entry 3) and the pointer addresses of D6 and D7 (log entry 4). -/
def Obligations.StepDependsOnlyOnTheBytesItReads : Prop :=
  ∀ (s : State) (m : Memory),
    (∀ addr ∈ readAddrs (stepAccesses s), m.readCell addr.toNat = s.memRead addr) →
    stepAccesses { s with mem := m } = stepAccesses s ∧
      mapOutcome (fun t => { t with mem := [] }) (step { s with mem := m }) =
        mapOutcome (fun t => { t with mem := [] }) (step s) ∧
      ∀ t t', step s = .next t → step { s with mem := m } = .next t' →
        ∀ addr ∈ writeAddrs (stepAccesses s), t'.memRead addr = t.memRead addr

/-- R36 (D14): a step changes no byte but the ones its access list writes. The lists are computed beside the step (the
model's choice, log entry 10) by the spec's decision D14 (log entry 9), with the stack addresses of D5 (log entry 3)
and the pointer addresses of D6 and D7 (log entry 4). -/
def Obligations.StepChangesOnlyTheBytesItWrites : Prop :=
  ∀ s t : State, step s = .next t →
    ∀ addr, addr ∉ writeAddrs (stepAccesses s) → t.memRead addr = s.memRead addr

/-- R238: a step makes at most five memory accesses. The lists are computed beside the step (the model's choice, log
entry 10) by the spec's decision D14 (log entry 9). -/
def Obligations.StepMakesAtMostFiveAccesses : Prop :=
  ∀ s : State, (stepAccesses s).length ≤ 5

/-! ### The inert flags -/

/-- R14, R22 (B from bit 4 by PLP: D9): no program can observe B: two runs of any length that start in states that
differ in B alone end alike, in states that differ at most in B. D9 is log entry 6; the table of R22 is the spec's
derivation from its instruction rules. -/
def Obligations.NoProgramObservesFlagB : Prop :=
  ∀ (steps : Nat) (s : State) (k : Bool),
    mapOutcome (fun t => { t with b := false }) (hostRun steps { s with b := k }) =
      mapOutcome (fun t => { t with b := false }) (hostRun steps s)

/-- R14, R123, R216, R22: no instruction but PHP reads D or I: started in states that differ in that flag alone, it
ends alike, in states that differ at most in that flag. The table of R22 is the spec's derivation from its instruction
rules. -/
def Obligations.DecimalAndInterruptFlagsAreInert : Prop :=
  ∀ (instr : Instr) (s : State) (k : Bool), instr.op ≠ .php →
    mapOutcome (fun t => { t with d := false }) (exec instr { s with d := k }) =
        mapOutcome (fun t => { t with d := false }) (exec instr s) ∧
      mapOutcome (fun t => { t with i := false }) (exec instr { s with i := k }) =
        mapOutcome (fun t => { t with i := false }) (exec instr s)

/-! ### The host's operations (70_reset_and_hazards.md) -/

/-- R233 (D16): `load` copies the bytes to consecutive addresses and changes nothing else; one that would pass 0xFFFF
is refused. D16 is log entry 9. -/
def Obligations.LoadCopiesTheBytes : Prop :=
  ∀ (r : LoadRequest) (s : State),
    (r.addr.toNat + r.bytes.length ≤ 65536 → ∃ t, hostLoad r s = .next t ∧ SameRegisters t s ∧
      (∀ k (h : k < r.bytes.length), t.memRead (r.addr + BitVec.ofNat 16 k) = r.bytes[k]) ∧
      ∀ addr : Word, (addr.toNat < r.addr.toNat ∨ r.addr.toNat + r.bytes.length ≤ addr.toNat) →
        t.memRead addr = s.memRead addr) ∧
    (65536 < r.addr.toNat + r.bytes.length → hostLoad r s = .refused (.loadPastEnd r.addr r.bytes.length))

/-- R78, R240: a run ends with a halting condition exactly when some step of it does, and the condition carries the
state that the completed instructions before it left. The bound is the form of the model's run (log entry 11), and a
fault carries the state (log entry 7). -/
def Obligations.RunEndsAtTheFirstHaltingCondition : Prop :=
  ∀ (bound : Nat) (s : State) (f : Fault), hostRun bound s = .fault f ↔
    ∃ k, k < bound ∧ hostRun k s = .next f.halted ∧ step f.halted = .fault f

/-- R80, R160 (opcode 4C by D1): a JMP to its own address runs for ever. D1 is log entry 2; a run without end is said
by runs of every bound (log entry 11). -/
def Obligations.JumpToItselfRunsForever : Prop :=
  ∀ s : State, s.memRead s.pc = 0x4C → s.memRead (s.pc + 1) = loByte s.pc → s.memRead (s.pc + 2) = hiByte s.pc →
    RunsForever s
end

