-- ==== Sys2Proof/Laws/Decode.lean ====
section
/-! SUPPORT. The opcode map read against the encoder: each row of Table B completes to instructions whose encoding, from
Table A, starts with the row's opcode byte and goes on with the operand bytes the row takes. -/

namespace Sys2Proof

/-- The row of `opcode` completes to instructions encoded by `opcode` and the operand bytes. -/
def RowEncodes (opcode : Byte) : Row → Prop
  | .op0 instr => encode instr = [opcode] ∧ instr.mode.operandBytes = 0
  | .op1 mk => ∀ o, encode (mk o) = [opcode, o] ∧ (mk o).mode.operandBytes = 1
  | .op2 mk => ∀ w, encode (mk w) = [opcode, loByte w, hiByte w] ∧ (mk w).mode.operandBytes = 2

/-- The sixteen rows of Table B. -/
def opcodeRows : List (List (Byte × Row)) :=
  [opcodeRow0, opcodeRow1, opcodeRow2, opcodeRow3, opcodeRow4, opcodeRow5, opcodeRow6, opcodeRow7, opcodeRow8,
    opcodeRow9, opcodeRowA, opcodeRowB, opcodeRowC, opcodeRowD, opcodeRowE, opcodeRowF]

theorem mem_opcodeMap {entry : Byte × Row} (h : entry ∈ opcodeMap) : ∃ row ∈ opcodeRows, entry ∈ row := by
  simp only [opcodeMap, List.mem_append] at h
  simp only [opcodeRows, List.exists_mem_cons_iff, List.not_mem_nil]
  tauto

theorem opcodeRows_encode : ∀ row ∈ opcodeRows, ∀ entry ∈ row, RowEncodes entry.1 entry.2 := by
  repeat' first
    | exact ⟨rfl, rfl⟩
    | exact fun _ => ⟨rfl, rfl⟩
    | exact List.forall_mem_nil _
    | refine List.forall_mem_cons.mpr ⟨?_, ?_⟩

/-- An assigned opcode byte decodes to a row that encodes back to it. -/
theorem decodeOpcode_encodes {opcode : Byte} {row : Row} (h : decodeOpcode opcode = some row) :
    RowEncodes opcode row := by
  simp only [decodeOpcode, Option.map_eq_some_iff] at h
  obtain ⟨entry, hfind, rfl⟩ := h
  have hmem := List.mem_of_find?_eq_some hfind
  obtain ⟨row, hrow, hentry⟩ := mem_opcodeMap hmem
  have hop : entry.1 = opcode := by simpa using List.find?_some hfind
  exact hop ▸ opcodeRows_encode row hrow entry hentry

end Sys2Proof
end

