-- ==== Sys2Proof/Laws/State.lean ====
section
/-! SUPPORT. For each update of the state, what it makes of each field, so that no proof unfolds a record update. -/

namespace Sys2Proof.Machine

/-! ### `s.memWrite addr v` -/

@[simp] theorem memWrite_pc (s : State) (addr : Word) (v : Byte) :
    (s.memWrite addr v).pc = s.pc := rfl
@[simp] theorem memWrite_sp (s : State) (addr : Word) (v : Byte) :
    (s.memWrite addr v).sp = s.sp := rfl
@[simp] theorem memWrite_a (s : State) (addr : Word) (v : Byte) :
    (s.memWrite addr v).a = s.a := rfl
@[simp] theorem memWrite_x (s : State) (addr : Word) (v : Byte) :
    (s.memWrite addr v).x = s.x := rfl
@[simp] theorem memWrite_y (s : State) (addr : Word) (v : Byte) :
    (s.memWrite addr v).y = s.y := rfl
@[simp] theorem memWrite_n (s : State) (addr : Word) (v : Byte) :
    (s.memWrite addr v).n = s.n := rfl
@[simp] theorem memWrite_v (s : State) (addr : Word) (v : Byte) :
    (s.memWrite addr v).v = s.v := rfl
@[simp] theorem memWrite_b (s : State) (addr : Word) (v : Byte) :
    (s.memWrite addr v).b = s.b := rfl
@[simp] theorem memWrite_d (s : State) (addr : Word) (v : Byte) :
    (s.memWrite addr v).d = s.d := rfl
@[simp] theorem memWrite_i (s : State) (addr : Word) (v : Byte) :
    (s.memWrite addr v).i = s.i := rfl
@[simp] theorem memWrite_z (s : State) (addr : Word) (v : Byte) :
    (s.memWrite addr v).z = s.z := rfl
@[simp] theorem memWrite_c (s : State) (addr : Word) (v : Byte) :
    (s.memWrite addr v).c = s.c := rfl
@[simp] theorem memWrite_mem (s : State) (addr : Word) (v : Byte) :
    (s.memWrite addr v).mem = s.mem.writeCell addr.toNat v := rfl

/-! ### `s.push v` -/

@[simp] theorem push_pc (s : State) (v : Byte) :
    (s.push v).pc = s.pc := rfl
@[simp] theorem push_sp (s : State) (v : Byte) :
    (s.push v).sp = s.sp - 1 := rfl
@[simp] theorem push_a (s : State) (v : Byte) :
    (s.push v).a = s.a := rfl
@[simp] theorem push_x (s : State) (v : Byte) :
    (s.push v).x = s.x := rfl
@[simp] theorem push_y (s : State) (v : Byte) :
    (s.push v).y = s.y := rfl
@[simp] theorem push_n (s : State) (v : Byte) :
    (s.push v).n = s.n := rfl
@[simp] theorem push_v (s : State) (v : Byte) :
    (s.push v).v = s.v := rfl
@[simp] theorem push_b (s : State) (v : Byte) :
    (s.push v).b = s.b := rfl
@[simp] theorem push_d (s : State) (v : Byte) :
    (s.push v).d = s.d := rfl
@[simp] theorem push_i (s : State) (v : Byte) :
    (s.push v).i = s.i := rfl
@[simp] theorem push_z (s : State) (v : Byte) :
    (s.push v).z = s.z := rfl
@[simp] theorem push_c (s : State) (v : Byte) :
    (s.push v).c = s.c := rfl
@[simp] theorem push_mem (s : State) (v : Byte) :
    (s.push v).mem = s.mem.writeCell (stackAddr s.sp).toNat v := rfl

/-! ### `s.pull.2` -/

@[simp] theorem pull_snd_pc (s : State) :
    (s.pull.2).pc = s.pc := rfl
@[simp] theorem pull_snd_sp (s : State) :
    (s.pull.2).sp = s.sp + 1 := rfl
@[simp] theorem pull_snd_a (s : State) :
    (s.pull.2).a = s.a := rfl
@[simp] theorem pull_snd_x (s : State) :
    (s.pull.2).x = s.x := rfl
@[simp] theorem pull_snd_y (s : State) :
    (s.pull.2).y = s.y := rfl
@[simp] theorem pull_snd_n (s : State) :
    (s.pull.2).n = s.n := rfl
@[simp] theorem pull_snd_v (s : State) :
    (s.pull.2).v = s.v := rfl
@[simp] theorem pull_snd_b (s : State) :
    (s.pull.2).b = s.b := rfl
@[simp] theorem pull_snd_d (s : State) :
    (s.pull.2).d = s.d := rfl
@[simp] theorem pull_snd_i (s : State) :
    (s.pull.2).i = s.i := rfl
@[simp] theorem pull_snd_z (s : State) :
    (s.pull.2).z = s.z := rfl
@[simp] theorem pull_snd_c (s : State) :
    (s.pull.2).c = s.c := rfl
@[simp] theorem pull_snd_mem (s : State) :
    (s.pull.2).mem = s.mem := rfl

/-! ### `s.pushWord w` -/

@[simp] theorem pushWord_pc (s : State) (w : Word) :
    (s.pushWord w).pc = s.pc := rfl
@[simp] theorem pushWord_sp (s : State) (w : Word) :
    (s.pushWord w).sp = s.sp - 1 - 1 := rfl
@[simp] theorem pushWord_a (s : State) (w : Word) :
    (s.pushWord w).a = s.a := rfl
@[simp] theorem pushWord_x (s : State) (w : Word) :
    (s.pushWord w).x = s.x := rfl
@[simp] theorem pushWord_y (s : State) (w : Word) :
    (s.pushWord w).y = s.y := rfl
@[simp] theorem pushWord_n (s : State) (w : Word) :
    (s.pushWord w).n = s.n := rfl
@[simp] theorem pushWord_v (s : State) (w : Word) :
    (s.pushWord w).v = s.v := rfl
@[simp] theorem pushWord_b (s : State) (w : Word) :
    (s.pushWord w).b = s.b := rfl
@[simp] theorem pushWord_d (s : State) (w : Word) :
    (s.pushWord w).d = s.d := rfl
@[simp] theorem pushWord_i (s : State) (w : Word) :
    (s.pushWord w).i = s.i := rfl
@[simp] theorem pushWord_z (s : State) (w : Word) :
    (s.pushWord w).z = s.z := rfl
@[simp] theorem pushWord_c (s : State) (w : Word) :
    (s.pushWord w).c = s.c := rfl
@[simp] theorem pushWord_mem (s : State) (w : Word) :
    (s.pushWord w).mem = (s.mem.writeCell (stackAddr s.sp).toNat (hiByte w)).writeCell
      (stackAddr (s.sp - 1)).toNat (loByte w) := rfl

/-! ### `s.pullWord.2` -/

@[simp] theorem pullWord_snd_pc (s : State) :
    (s.pullWord.2).pc = s.pc := rfl
@[simp] theorem pullWord_snd_sp (s : State) :
    (s.pullWord.2).sp = s.sp + 1 + 1 := rfl
@[simp] theorem pullWord_snd_a (s : State) :
    (s.pullWord.2).a = s.a := rfl
@[simp] theorem pullWord_snd_x (s : State) :
    (s.pullWord.2).x = s.x := rfl
@[simp] theorem pullWord_snd_y (s : State) :
    (s.pullWord.2).y = s.y := rfl
@[simp] theorem pullWord_snd_n (s : State) :
    (s.pullWord.2).n = s.n := rfl
@[simp] theorem pullWord_snd_v (s : State) :
    (s.pullWord.2).v = s.v := rfl
@[simp] theorem pullWord_snd_b (s : State) :
    (s.pullWord.2).b = s.b := rfl
@[simp] theorem pullWord_snd_d (s : State) :
    (s.pullWord.2).d = s.d := rfl
@[simp] theorem pullWord_snd_i (s : State) :
    (s.pullWord.2).i = s.i := rfl
@[simp] theorem pullWord_snd_z (s : State) :
    (s.pullWord.2).z = s.z := rfl
@[simp] theorem pullWord_snd_c (s : State) :
    (s.pullWord.2).c = s.c := rfl
@[simp] theorem pullWord_snd_mem (s : State) :
    (s.pullWord.2).mem = s.mem := rfl

/-! ### `setNZ r s` -/

@[simp] theorem setNZ_pc (r : Byte) (s : State) :
    (setNZ r s).pc = s.pc := rfl
@[simp] theorem setNZ_sp (r : Byte) (s : State) :
    (setNZ r s).sp = s.sp := rfl
@[simp] theorem setNZ_a (r : Byte) (s : State) :
    (setNZ r s).a = s.a := rfl
@[simp] theorem setNZ_x (r : Byte) (s : State) :
    (setNZ r s).x = s.x := rfl
@[simp] theorem setNZ_y (r : Byte) (s : State) :
    (setNZ r s).y = s.y := rfl
@[simp] theorem setNZ_n (r : Byte) (s : State) :
    (setNZ r s).n = r.getLsbD 7 := rfl
@[simp] theorem setNZ_v (r : Byte) (s : State) :
    (setNZ r s).v = s.v := rfl
@[simp] theorem setNZ_b (r : Byte) (s : State) :
    (setNZ r s).b = s.b := rfl
@[simp] theorem setNZ_d (r : Byte) (s : State) :
    (setNZ r s).d = s.d := rfl
@[simp] theorem setNZ_i (r : Byte) (s : State) :
    (setNZ r s).i = s.i := rfl
@[simp] theorem setNZ_z (r : Byte) (s : State) :
    (setNZ r s).z = decide (r = 0) := rfl
@[simp] theorem setNZ_c (r : Byte) (s : State) :
    (setNZ r s).c = s.c := rfl
@[simp] theorem setNZ_mem (r : Byte) (s : State) :
    (setNZ r s).mem = s.mem := rfl

/-! ### `unpack p s` -/

@[simp] theorem unpack_pc (p : Byte) (s : State) :
    (unpack p s).pc = s.pc := rfl
@[simp] theorem unpack_sp (p : Byte) (s : State) :
    (unpack p s).sp = s.sp := rfl
@[simp] theorem unpack_a (p : Byte) (s : State) :
    (unpack p s).a = s.a := rfl
@[simp] theorem unpack_x (p : Byte) (s : State) :
    (unpack p s).x = s.x := rfl
@[simp] theorem unpack_y (p : Byte) (s : State) :
    (unpack p s).y = s.y := rfl
@[simp] theorem unpack_n (p : Byte) (s : State) :
    (unpack p s).n = p.getLsbD 7 := rfl
@[simp] theorem unpack_v (p : Byte) (s : State) :
    (unpack p s).v = p.getLsbD 6 := rfl
@[simp] theorem unpack_b (p : Byte) (s : State) :
    (unpack p s).b = p.getLsbD 4 := rfl
@[simp] theorem unpack_d (p : Byte) (s : State) :
    (unpack p s).d = p.getLsbD 3 := rfl
@[simp] theorem unpack_i (p : Byte) (s : State) :
    (unpack p s).i = p.getLsbD 2 := rfl
@[simp] theorem unpack_z (p : Byte) (s : State) :
    (unpack p s).z = p.getLsbD 1 := rfl
@[simp] theorem unpack_c (p : Byte) (s : State) :
    (unpack p s).c = p.getLsbD 0 := rfl
@[simp] theorem unpack_mem (p : Byte) (s : State) :
    (unpack p s).mem = s.mem := rfl

/-! ### `compareFlags r m s` -/

@[simp] theorem compareFlags_pc (r m : Byte) (s : State) :
    (compareFlags r m s).pc = s.pc := rfl
@[simp] theorem compareFlags_sp (r m : Byte) (s : State) :
    (compareFlags r m s).sp = s.sp := rfl
@[simp] theorem compareFlags_a (r m : Byte) (s : State) :
    (compareFlags r m s).a = s.a := rfl
@[simp] theorem compareFlags_x (r m : Byte) (s : State) :
    (compareFlags r m s).x = s.x := rfl
@[simp] theorem compareFlags_y (r m : Byte) (s : State) :
    (compareFlags r m s).y = s.y := rfl
@[simp] theorem compareFlags_n (r m : Byte) (s : State) :
    (compareFlags r m s).n = (r - m).getLsbD 7 := rfl
@[simp] theorem compareFlags_v (r m : Byte) (s : State) :
    (compareFlags r m s).v = s.v := rfl
@[simp] theorem compareFlags_b (r m : Byte) (s : State) :
    (compareFlags r m s).b = s.b := rfl
@[simp] theorem compareFlags_d (r m : Byte) (s : State) :
    (compareFlags r m s).d = s.d := rfl
@[simp] theorem compareFlags_i (r m : Byte) (s : State) :
    (compareFlags r m s).i = s.i := rfl
@[simp] theorem compareFlags_z (r m : Byte) (s : State) :
    (compareFlags r m s).z = decide (r - m = 0) := rfl
@[simp] theorem compareFlags_c (r m : Byte) (s : State) :
    (compareFlags r m s).c = decide (m.toNat ≤ r.toNat) := rfl
@[simp] theorem compareFlags_mem (r m : Byte) (s : State) :
    (compareFlags r m s).mem = s.mem := rfl

/-! ### `bitTest m s` -/

@[simp] theorem bitTest_pc (m : Byte) (s : State) :
    (bitTest m s).pc = s.pc := rfl
@[simp] theorem bitTest_sp (m : Byte) (s : State) :
    (bitTest m s).sp = s.sp := rfl
@[simp] theorem bitTest_a (m : Byte) (s : State) :
    (bitTest m s).a = s.a := rfl
@[simp] theorem bitTest_x (m : Byte) (s : State) :
    (bitTest m s).x = s.x := rfl
@[simp] theorem bitTest_y (m : Byte) (s : State) :
    (bitTest m s).y = s.y := rfl
@[simp] theorem bitTest_n (m : Byte) (s : State) :
    (bitTest m s).n = m.getLsbD 7 := rfl
@[simp] theorem bitTest_v (m : Byte) (s : State) :
    (bitTest m s).v = m.getLsbD 6 := rfl
@[simp] theorem bitTest_b (m : Byte) (s : State) :
    (bitTest m s).b = s.b := rfl
@[simp] theorem bitTest_d (m : Byte) (s : State) :
    (bitTest m s).d = s.d := rfl
@[simp] theorem bitTest_i (m : Byte) (s : State) :
    (bitTest m s).i = s.i := rfl
@[simp] theorem bitTest_z (m : Byte) (s : State) :
    (bitTest m s).z = decide (s.a &&& m = 0) := rfl
@[simp] theorem bitTest_c (m : Byte) (s : State) :
    (bitTest m s).c = s.c := rfl
@[simp] theorem bitTest_mem (m : Byte) (s : State) :
    (bitTest m s).mem = s.mem := rfl

/-! ### `addWithCarry m s` -/

@[simp] theorem addWithCarry_pc (m : Byte) (s : State) :
    (addWithCarry m s).pc = s.pc := rfl
@[simp] theorem addWithCarry_sp (m : Byte) (s : State) :
    (addWithCarry m s).sp = s.sp := rfl
@[simp] theorem addWithCarry_a (m : Byte) (s : State) :
    (addWithCarry m s).a = BitVec.ofNat 8 (carrySum s.a m s.c) := rfl
@[simp] theorem addWithCarry_x (m : Byte) (s : State) :
    (addWithCarry m s).x = s.x := rfl
@[simp] theorem addWithCarry_y (m : Byte) (s : State) :
    (addWithCarry m s).y = s.y := rfl
@[simp] theorem addWithCarry_n (m : Byte) (s : State) :
    (addWithCarry m s).n = (BitVec.ofNat 8 (carrySum s.a m s.c)).getLsbD 7 := rfl
@[simp] theorem addWithCarry_v (m : Byte) (s : State) :
    (addWithCarry m s).v = decide
      ((s.a ^^^ BitVec.ofNat 8 (carrySum s.a m s.c)) &&& (m ^^^ BitVec.ofNat 8 (carrySum s.a m s.c)) &&& 0x80 ≠ 0) := rfl
@[simp] theorem addWithCarry_b (m : Byte) (s : State) :
    (addWithCarry m s).b = s.b := rfl
@[simp] theorem addWithCarry_d (m : Byte) (s : State) :
    (addWithCarry m s).d = s.d := rfl
@[simp] theorem addWithCarry_i (m : Byte) (s : State) :
    (addWithCarry m s).i = s.i := rfl
@[simp] theorem addWithCarry_z (m : Byte) (s : State) :
    (addWithCarry m s).z = decide (BitVec.ofNat 8 (carrySum s.a m s.c) = 0) := rfl
@[simp] theorem addWithCarry_c (m : Byte) (s : State) :
    (addWithCarry m s).c = decide (255 < carrySum s.a m s.c) := rfl
@[simp] theorem addWithCarry_mem (m : Byte) (s : State) :
    (addWithCarry m s).mem = s.mem := rfl

/-! ### `modifyAcc f s` -/

@[simp] theorem modifyAcc_pc (f : Transform) (s : State) :
    (modifyAcc f s).pc = s.pc := rfl
@[simp] theorem modifyAcc_sp (f : Transform) (s : State) :
    (modifyAcc f s).sp = s.sp := rfl
@[simp] theorem modifyAcc_a (f : Transform) (s : State) :
    (modifyAcc f s).a = (f s.a s.c).1 := rfl
@[simp] theorem modifyAcc_x (f : Transform) (s : State) :
    (modifyAcc f s).x = s.x := rfl
@[simp] theorem modifyAcc_y (f : Transform) (s : State) :
    (modifyAcc f s).y = s.y := rfl
@[simp] theorem modifyAcc_n (f : Transform) (s : State) :
    (modifyAcc f s).n = (f s.a s.c).1.getLsbD 7 := rfl
@[simp] theorem modifyAcc_v (f : Transform) (s : State) :
    (modifyAcc f s).v = s.v := rfl
@[simp] theorem modifyAcc_b (f : Transform) (s : State) :
    (modifyAcc f s).b = s.b := rfl
@[simp] theorem modifyAcc_d (f : Transform) (s : State) :
    (modifyAcc f s).d = s.d := rfl
@[simp] theorem modifyAcc_i (f : Transform) (s : State) :
    (modifyAcc f s).i = s.i := rfl
@[simp] theorem modifyAcc_z (f : Transform) (s : State) :
    (modifyAcc f s).z = decide ((f s.a s.c).1 = 0) := rfl
@[simp] theorem modifyAcc_c (f : Transform) (s : State) :
    (modifyAcc f s).c = (f s.a s.c).2 := rfl
@[simp] theorem modifyAcc_mem (f : Transform) (s : State) :
    (modifyAcc f s).mem = s.mem := rfl

/-! ### `modifyMem f ea s` -/

@[simp] theorem modifyMem_pc (f : Transform) (ea : Word) (s : State) :
    (modifyMem f ea s).pc = s.pc := rfl
@[simp] theorem modifyMem_sp (f : Transform) (ea : Word) (s : State) :
    (modifyMem f ea s).sp = s.sp := rfl
@[simp] theorem modifyMem_a (f : Transform) (ea : Word) (s : State) :
    (modifyMem f ea s).a = s.a := rfl
@[simp] theorem modifyMem_x (f : Transform) (ea : Word) (s : State) :
    (modifyMem f ea s).x = s.x := rfl
@[simp] theorem modifyMem_y (f : Transform) (ea : Word) (s : State) :
    (modifyMem f ea s).y = s.y := rfl
@[simp] theorem modifyMem_n (f : Transform) (ea : Word) (s : State) :
    (modifyMem f ea s).n = (f (s.memRead ea) s.c).1.getLsbD 7 := rfl
@[simp] theorem modifyMem_v (f : Transform) (ea : Word) (s : State) :
    (modifyMem f ea s).v = s.v := rfl
@[simp] theorem modifyMem_b (f : Transform) (ea : Word) (s : State) :
    (modifyMem f ea s).b = s.b := rfl
@[simp] theorem modifyMem_d (f : Transform) (ea : Word) (s : State) :
    (modifyMem f ea s).d = s.d := rfl
@[simp] theorem modifyMem_i (f : Transform) (ea : Word) (s : State) :
    (modifyMem f ea s).i = s.i := rfl
@[simp] theorem modifyMem_z (f : Transform) (ea : Word) (s : State) :
    (modifyMem f ea s).z = decide ((f (s.memRead ea) s.c).1 = 0) := rfl
@[simp] theorem modifyMem_c (f : Transform) (ea : Word) (s : State) :
    (modifyMem f ea s).c = (f (s.memRead ea) s.c).2 := rfl
@[simp] theorem modifyMem_mem (f : Transform) (ea : Word) (s : State) :
    (modifyMem f ea s).mem = s.mem.writeCell ea.toNat (f (s.memRead ea) s.c).1 := rfl

end Sys2Proof.Machine
end

