-- ==== Sys2Proof/Laws/Memory.lean ====
section
/-! SUPPORT. The laws of the memory's cells and of the memory port: what a read gives after a write, and that every
memory operation keeps the canonical form. The read laws need no canonical form. -/

namespace Sys2Proof.Machine

/-! ### Cells -/

@[simp] theorem Memory.readCell_nil (addr : Nat) : Memory.readCell [] addr = Config.memInit := rfl

theorem Memory.readCell_cons (k : Nat) (w : Byte) (m : Memory) (addr : Nat) :
    Memory.readCell ((k, w) :: m) addr = if k = addr then w else m.readCell addr := rfl

/-- A list that holds no cell of an address reads as `MEM_INIT` there. -/
theorem Memory.readCell_of_not_listed (m : Memory) (addr : Nat) (h : ∀ p ∈ m, p.1 ≠ addr) :
    m.readCell addr = Config.memInit := by
  induction m with
  | nil => rfl
  | cons p m ih =>
    rw [Memory.readCell_cons, if_neg (h p (by simp))]
    exact ih fun q hq => h q (by simp [hq])

theorem Memory.readCell_eraseCell_same (m : Memory) (addr : Nat) :
    (m.eraseCell addr).readCell addr = Config.memInit :=
  Memory.readCell_of_not_listed _ _ fun p hp => by simp [Memory.eraseCell] at hp; exact hp.2

theorem Memory.readCell_eraseCell_other (m : Memory) (addr other : Nat) (h : other ≠ addr) :
    (m.eraseCell addr).readCell other = m.readCell other := by
  induction m with
  | nil => rfl
  | cons p m ih =>
    obtain ⟨k, w⟩ := p
    by_cases hk : k = addr
    · have : Memory.eraseCell ((k, w) :: m) addr = Memory.eraseCell m addr := by simp [Memory.eraseCell, hk]
      rw [this, ih, Memory.readCell_cons, if_neg (by omega)]
    · have : Memory.eraseCell ((k, w) :: m) addr = (k, w) :: Memory.eraseCell m addr := by simp [Memory.eraseCell, hk]
      rw [this, Memory.readCell_cons, Memory.readCell_cons, ih]

theorem Memory.readCell_insertCell_same (m : Memory) (addr : Nat) (v : Byte) (h : ∀ p ∈ m, p.1 ≠ addr) :
    (m.insertCell addr v).readCell addr = v := by
  induction m with
  | nil => simp [Memory.insertCell, Memory.readCell_cons]
  | cons p m ih =>
    obtain ⟨k, w⟩ := p
    have hk : k ≠ addr := h (k, w) (by simp)
    rw [Memory.insertCell]
    split
    · simp [Memory.readCell_cons]
    · rw [Memory.readCell_cons, if_neg hk]
      exact ih fun q hq => h q (by simp [hq])

theorem Memory.readCell_insertCell_other (m : Memory) (addr other : Nat) (v : Byte) (h : other ≠ addr) :
    (m.insertCell addr v).readCell other = m.readCell other := by
  induction m with
  | nil => simp [Memory.insertCell, Memory.readCell_cons, Ne.symm h]
  | cons p m ih =>
    obtain ⟨k, w⟩ := p
    rw [Memory.insertCell]
    split
    · rw [Memory.readCell_cons, if_neg (Ne.symm h)]
    · rw [Memory.readCell_cons, Memory.readCell_cons, ih]

/-- A write is read back. -/
@[simp] theorem Memory.readCell_writeCell_same (m : Memory) (addr : Nat) (v : Byte) :
    (m.writeCell addr v).readCell addr = v := by
  rw [Memory.writeCell]
  split
  case isTrue h => rw [h, Memory.readCell_eraseCell_same]
  case isFalse =>
    exact Memory.readCell_insertCell_same _ _ _ fun p hp => by simp [Memory.eraseCell] at hp; exact hp.2

/-- A write leaves every other address alone. -/
theorem Memory.readCell_writeCell_other (m : Memory) (addr other : Nat) (v : Byte) (h : other ≠ addr) :
    (m.writeCell addr v).readCell other = m.readCell other := by
  rw [Memory.writeCell]
  split
  · exact Memory.readCell_eraseCell_other _ _ _ h
  · rw [Memory.readCell_insertCell_other _ _ _ _ h, Memory.readCell_eraseCell_other _ _ _ h]

/-! ### The canonical form -/

theorem Memory.mem_insertCell (m : Memory) (addr : Nat) (v : Byte) (p : Host.Cell) :
    p ∈ m.insertCell addr v ↔ p = (addr, v) ∨ p ∈ m := by
  induction m with
  | nil => simp [Memory.insertCell]
  | cons q m ih =>
    rw [Memory.insertCell]
    split
    · simp
    · simp only [List.mem_cons, ih]
      tauto

theorem Memory.eraseCell_wf {m : Memory} (addr : Nat) (h : m.wf) : (m.eraseCell addr).wf :=
  ⟨h.1.filter _, fun p hp => h.2 p (List.mem_filter.mp hp).1⟩

theorem Memory.insertCell_wf {m : Memory} {addr : Nat} {v : Byte} (h : m.wf) (hfree : ∀ p ∈ m, p.1 ≠ addr)
    (hin : addr < Config.memSize) (hv : v ≠ Config.memInit) : (m.insertCell addr v).wf := by
  refine ⟨?_, fun p hp => ?_⟩
  · obtain ⟨hsorted, -⟩ := h
    induction m with
    | nil => simp [Memory.insertCell]
    | cons q m ih =>
      rw [List.pairwise_cons] at hsorted
      rw [Memory.insertCell]
      split
      case isTrue hlt =>
        refine List.pairwise_cons.mpr ⟨fun p hp => ?_, List.pairwise_cons.mpr hsorted⟩
        rcases List.mem_cons.mp hp with rfl | hp
        · exact hlt
        · exact hlt.trans (hsorted.1 p hp)
      case isFalse hle =>
        refine List.pairwise_cons.mpr ⟨fun p hp => ?_, ih (fun p hp => hfree p (by simp [hp])) hsorted.2⟩
        rcases (Memory.mem_insertCell m addr v p).mp hp with rfl | hp
        · exact lt_of_le_of_ne (Nat.le_of_not_lt hle) (hfree q (by simp))
        · exact hsorted.1 p hp
  · rcases (Memory.mem_insertCell m addr v p).mp hp with rfl | hp
    · exact ⟨hin, hv⟩
    · exact h.2 p hp

/-- A write keeps the canonical form. -/
theorem Memory.writeCell_wf {m : Memory} {addr : Nat} (v : Byte) (h : m.wf) (hin : addr < Config.memSize) :
    (m.writeCell addr v).wf := by
  rw [Memory.writeCell]
  split
  · exact Memory.eraseCell_wf addr h
  case isFalse hv =>
    exact Memory.insertCell_wf (Memory.eraseCell_wf addr h)
      (fun p hp => by simp [Memory.eraseCell] at hp; exact hp.2) hin hv

/-! ### The memory port and the stack keep it -/

theorem memWrite_wf {s : State} (addr : Word) (v : Byte) (h : s.mem.wf) : (s.memWrite addr v).mem.wf :=
  Memory.writeCell_wf v h addr.isLt

theorem memWriteWord_wf {s : State} (addr w : Word) (h : s.mem.wf) : (s.memWriteWord addr w).mem.wf :=
  memWrite_wf _ _ (memWrite_wf _ _ h)

theorem memWriteBytes_wf {s : State} (addr : Word) (bytes : List Byte) (h : s.mem.wf) :
    (s.memWriteBytes addr bytes).mem.wf := by
  induction bytes generalizing s addr with
  | nil => exact h
  | cons v rest ih => exact ih (addr + 1) (memWrite_wf addr v h)

theorem push_wf {s : State} (v : Byte) (h : s.mem.wf) : (s.push v).mem.wf :=
  memWrite_wf _ _ h

theorem pushWord_wf {s : State} (w : Word) (h : s.mem.wf) : (s.pushWord w).mem.wf :=
  push_wf _ (push_wf _ h)

theorem modifyMem_wf {s : State} (f : Transform) (ea : Word) (h : s.mem.wf) : (modifyMem f ea s).mem.wf :=
  memWrite_wf (s := s) ea _ h

theorem reset_wf : State.reset.mem.wf := by decide

/-! ### Reads after the port's writes -/

/-- A read depends on the memory alone. -/
theorem memRead_eq (s : State) (addr : Word) : s.memRead addr = s.mem.readCell addr.toNat := rfl

/-- States with the same memory read alike. -/
theorem memRead_congr {s t : State} (h : s.mem = t.mem) (addr : Word) : s.memRead addr = t.memRead addr := by
  rw [memRead_eq, memRead_eq, h]

/-- One write of the memory port, read at any address. -/
theorem memRead_memWrite (s : State) (addr other : Word) (v : Byte) :
    (s.memWrite addr v).memRead other = if other = addr then v else s.memRead other := by
  split
  case isTrue h => rw [h, memRead_eq, memWrite_mem, Memory.readCell_writeCell_same]
  case isFalse h =>
    rw [memRead_eq, memWrite_mem, Memory.readCell_writeCell_other _ _ _ _ (fun hn => h (BitVec.eq_of_toNat_eq hn)),
      memRead_eq]

end Sys2Proof.Machine
end

