-- ==== Sys2Proof/Laws/Ops.lean ====
section
/-! SUPPORT. The laws of the shared operations: words and their bytes, the stack page, and what a push, a pull and a
halting condition do. -/

namespace Sys2Proof

/-! ### Words and bytes -/

theorem wordOf_toNat (hi lo : Byte) : (wordOf hi lo).toNat = 256 * hi.toNat + lo.toNat := by
  unfold wordOf
  rw [BitVec.toNat_append, ← Nat.shiftLeft_add_eq_or_of_lt lo.isLt, Nat.shiftLeft_eq]
  omega

theorem loByte_toNat (w : Word) : (loByte w).toNat = w.toNat % 256 := by
  simp [loByte]

theorem hiByte_toNat (w : Word) : (hiByte w).toNat = w.toNat / 256 := by
  have := w.isLt
  simp [hiByte, Nat.shiftRight_eq_div_pow]
  omega

@[simp] theorem loByte_wordOf (hi lo : Byte) : loByte (wordOf hi lo) = lo := by
  apply BitVec.eq_of_toNat_eq
  rw [loByte_toNat, wordOf_toNat]
  omega

@[simp] theorem hiByte_wordOf (hi lo : Byte) : hiByte (wordOf hi lo) = hi := by
  apply BitVec.eq_of_toNat_eq
  rw [hiByte_toNat, wordOf_toNat]
  omega

@[simp] theorem wordOf_hiByte_loByte (w : Word) : wordOf (hiByte w) (loByte w) = w := by
  apply BitVec.eq_of_toNat_eq
  rw [wordOf_toNat, hiByte_toNat, loByte_toNat]
  omega

namespace Machine

/-! ### The stack page -/

theorem stackAddr_toNat (sp : Byte) : (stackAddr sp).toNat = 256 + sp.toNat := by
  have := sp.isLt
  simp [stackAddr, Config.stackBase]
  omega

theorem stackAddr_inj {p q : Byte} : stackAddr p = stackAddr q ↔ p = q := by
  constructor
  · intro h
    have := congrArg BitVec.toNat h
    rw [stackAddr_toNat, stackAddr_toNat] at this
    exact BitVec.eq_of_toNat_eq (by omega)
  · rintro rfl
    rfl

/-- What a push stores, read at any address. -/
theorem memRead_push (s : State) (v : Byte) (other : Word) :
    (s.push v).memRead other = if other = stackAddr s.sp then v else s.memRead other :=
  memRead_memWrite s (stackAddr s.sp) other v

theorem pull_fst (s : State) : s.pull.1 = s.memRead (stackAddr (s.sp + 1)) := rfl

theorem pullWord_fst (s : State) :
    s.pullWord.1 = wordOf (s.memRead (stackAddr (s.sp + 1 + 1))) (s.memRead (stackAddr (s.sp + 1))) := rfl

/-- What the two pushes of a word store, read at any address. -/
theorem memRead_pushWord (s : State) (w : Word) (other : Word) :
    (s.pushWord w).memRead other =
      if other = stackAddr (s.sp - 1) then loByte w else if other = stackAddr s.sp then hiByte w else s.memRead other := by
  rw [State.pushWord, memRead_push, memRead_push, push_sp]

/-! ### Halting -/

/-- Raising a condition never gives a next state or a refusal. -/
theorem raiseCondition_eq (condition : State → Fault) (s : State) :
    raiseCondition condition s = .fault (condition { s with pc := s.pc - 1 }) := rfl

end Machine

end Sys2Proof
end

