-- ==== Sys2Proof/Laws/Exec.lean ====
section
/-! SUPPORT. What `exec` does, said once by operation instead of by constructor: the reading, storing, modifying and
branching operations over all their operand forms. The remaining operations have one constructor each, so `exec` of
them unfolds by rfl; JMP has two. -/

namespace Sys2Proof.Machine

/-- What an operation that reads an operand byte does with it. -/
def readEffect : Op → Option (Byte → State → State)
  | .lda => some loadA
  | .ldx => some loadX
  | .ldy => some loadY
  | .and => some andA
  | .eor => some eorA
  | .ora => some oraA
  | .adc => some addWithCarry
  | .sbc => some subWithCarry
  | .cmp => some cmpA
  | .cpx => some cmpX
  | .cpy => some cmpY
  | .bit => some bitTest
  | _ => none

/-- The register that a store stores. -/
def storeEffect : Op → Option (State → Byte)
  | .sta => some State.a
  | .stx => some State.x
  | .sty => some State.y
  | _ => none

/-- The transformation that a read-modify-write applies. -/
def modifyEffect : Op → Option Transform
  | .inc => some incT
  | .dec => some decT
  | .asl => some aslT
  | .lsr => some lsrT
  | .rol => some rolT
  | .ror => some rorT
  | _ => none

/-- The condition under which a branch is taken. -/
def branchEffect : Op → Option (State → Bool)
  | .bcc => some fun s => !s.c
  | .bcs => some State.c
  | .beq => some State.z
  | .bne => some fun s => !s.z
  | .bmi => some State.n
  | .bpl => some fun s => !s.n
  | .bvc => some fun s => !s.v
  | .bvs => some State.v
  | _ => none

/-- A reading operation completes in every form, by its effect on the operand byte. -/
theorem exec_reading {instr : Instr} {f : Byte → State → State} (h : readEffect instr.op = some f) (s : State) :
    ∃ m, readOperand instr s = some m ∧ exec instr s = .next (f m s) := by
  cases instr <;> first
    | (simp [readEffect, Instr.op, Instr.view] at h; done)
    | (cases h; exact ⟨_, rfl, rfl⟩)

/-- A store completes in every form: one write at the effective address. -/
theorem exec_storing {instr : Instr} {r : State → Byte} (h : storeEffect instr.op = some r) (s : State) :
    ∃ ea, effectiveAddress instr s = some ea ∧ exec instr s = .next (s.memWrite ea (r s)) := by
  cases instr <;> first
    | (simp [storeEffect, Instr.op, Instr.view] at h; done)
    | (cases h; exact ⟨_, rfl, rfl⟩)

/-- A read-modify-write completes in every form: on A in accumulator mode, else on the byte at the effective
address. -/
theorem exec_modifying {instr : Instr} {f : Transform} (h : modifyEffect instr.op = some f) (s : State) :
    (instr.mode = .acc ∧ exec instr s = .next (modifyAcc f s)) ∨
      (instr.mode ≠ .acc ∧
        ∃ ea, effectiveAddress instr s = some ea ∧ exec instr s = .next (modifyMem f ea s)) := by
  cases instr <;> first
    | (simp [modifyEffect, Instr.op, Instr.view] at h; done)
    | (cases h; exact .inl ⟨rfl, rfl⟩)
    | (cases h; exact .inr ⟨nofun, _, rfl, rfl⟩)

/-- A branch completes, taken or not. -/
theorem exec_branch {instr : Instr} {taken : State → Bool} (h : branchEffect instr.op = some taken) (s : State) :
    ∃ off, instr.view.operand = .byte off ∧ exec instr s = .next (branchIf (taken s) off s) := by
  cases instr <;> first
    | (simp [branchEffect, Instr.op, Instr.view] at h; done)
    | (cases h; exact ⟨_, rfl, rfl⟩)

/-- Every instruction but BRK completes; BRK stops with PC rolled back. -/
theorem exec_cases (instr : Instr) (s : State) :
    (instr.op ≠ .brk ∧ ∃ t, exec instr s = .next t) ∨
      (instr.op = .brk ∧ exec instr s = .fault (.brk { s with pc := s.pc - 1 })) := by
  cases instr <;> first
    | exact .inl ⟨nofun, _, rfl⟩
    | exact .inr ⟨rfl, rfl⟩

/-- The operations that keep the memory: everything but stores, read-modify-writes, pushes and JSR. -/
def memoryKeeping : Op → Bool
  | .sta | .stx | .sty | .inc | .dec | .asl | .lsr | .rol | .ror | .pha | .php | .jsr => false
  | _ => true

/-- An instruction that keeps the memory has the same memory after it. -/
theorem exec_keeps_memory {instr : Instr} {s t : State} (hop : memoryKeeping instr.op = true)
    (h : exec instr s = .next t) : t.mem = s.mem := by
  cases instr <;> first
    | (simp [memoryKeeping, Instr.op, Instr.view] at hop; done)
    | (cases h; rfl)
    | (cases h; exact apply_ite State.mem _ _ _ |>.trans (ite_self _))
    | cases h

/-- Every instruction keeps the canonical form of memory. -/
theorem exec_keeps_wf {instr : Instr} {s t : State} (hs : s.mem.wf) (h : exec instr s = .next t) : t.mem.wf := by
  by_cases hop : memoryKeeping instr.op = true
  · rw [exec_keeps_memory hop h]
    exact hs
  · cases instr <;> first
      | (simp [memoryKeeping, Instr.op, Instr.view] at hop; done)
      | (cases h; exact memWrite_wf _ _ hs)
      | (cases h; exact hs)
      | (cases h; exact pushWord_wf _ hs)

end Sys2Proof.Machine
end

