-- ==== Sys2Proof/Laws/HostOps.lean ====
section
/-! SUPPORT. What the host's power-on and reset leave in the two fields in which they differ (70_reset_and_hazards.md
R230, R232, R235). -/

namespace Sys2Proof.Machine

@[simp] theorem hostPowerOn_pc (resetPc : Option Word) :
    (hostPowerOn resetPc).pc = resetPc.getD Config.resetPc := rfl

@[simp] theorem hostPowerOn_mem (resetPc : Option Word) : (hostPowerOn resetPc).mem = [] := rfl

/-- A power-on for which the host supplies nothing gives the state after reset. -/
@[simp] theorem hostPowerOn_none : hostPowerOn none = State.reset := rfl

@[simp] theorem hostReset_pc (s : State) : (hostReset s).pc = Config.resetPc := rfl

@[simp] theorem hostReset_mem (s : State) : (hostReset s).mem = s.mem := rfl

/-- The memory after power-on is canonical, whatever PC the host gives. -/
theorem hostPowerOn_wf (resetPc : Option Word) : (hostPowerOn resetPc).mem.wf := reset_wf

end Sys2Proof.Machine
end

