-- ==== Sys2Proof/Laws/PerInstr.lean ====
section
/-! SUPPORT. The encoder's length law, instruction by instruction: an encoding has one opcode byte and the operand bytes
of its form (30_encoding.md R50, R51). -/

namespace Sys2Proof.Laws.EncodedLength

/-- The encoding of `instr` has the length its operand form gives it. -/
def Statement (instr : Instr) : Prop :=
  (encode instr).length = instr.length

theorem andImm (m : Byte) : Statement (.andImm m) := rfl
theorem andZp (o : Byte) : Statement (.andZp o) := rfl
theorem andZpx (o : Byte) : Statement (.andZpx o) := rfl
theorem andAbs (w : Word) : Statement (.andAbs w) := rfl
theorem andAbsx (w : Word) : Statement (.andAbsx w) := rfl
theorem andAbsy (w : Word) : Statement (.andAbsy w) := rfl
theorem andIndx (o : Byte) : Statement (.andIndx o) := rfl
theorem andIndy (o : Byte) : Statement (.andIndy o) := rfl
theorem eorImm (m : Byte) : Statement (.eorImm m) := rfl
theorem eorZp (o : Byte) : Statement (.eorZp o) := rfl
theorem eorZpx (o : Byte) : Statement (.eorZpx o) := rfl
theorem eorAbs (w : Word) : Statement (.eorAbs w) := rfl
theorem eorAbsx (w : Word) : Statement (.eorAbsx w) := rfl
theorem eorAbsy (w : Word) : Statement (.eorAbsy w) := rfl
theorem eorIndx (o : Byte) : Statement (.eorIndx o) := rfl
theorem eorIndy (o : Byte) : Statement (.eorIndy o) := rfl
theorem oraImm (m : Byte) : Statement (.oraImm m) := rfl
theorem oraZp (o : Byte) : Statement (.oraZp o) := rfl
theorem oraZpx (o : Byte) : Statement (.oraZpx o) := rfl
theorem oraAbs (w : Word) : Statement (.oraAbs w) := rfl
theorem oraAbsx (w : Word) : Statement (.oraAbsx w) := rfl
theorem oraAbsy (w : Word) : Statement (.oraAbsy w) := rfl
theorem oraIndx (o : Byte) : Statement (.oraIndx o) := rfl
theorem oraIndy (o : Byte) : Statement (.oraIndy o) := rfl
theorem bitZp (o : Byte) : Statement (.bitZp o) := rfl
theorem bitAbs (w : Word) : Statement (.bitAbs w) := rfl
theorem cmpImm (m : Byte) : Statement (.cmpImm m) := rfl
theorem cmpZp (o : Byte) : Statement (.cmpZp o) := rfl
theorem cmpZpx (o : Byte) : Statement (.cmpZpx o) := rfl
theorem cmpAbs (w : Word) : Statement (.cmpAbs w) := rfl
theorem cmpAbsx (w : Word) : Statement (.cmpAbsx w) := rfl
theorem cmpAbsy (w : Word) : Statement (.cmpAbsy w) := rfl
theorem cmpIndx (o : Byte) : Statement (.cmpIndx o) := rfl
theorem cmpIndy (o : Byte) : Statement (.cmpIndy o) := rfl
theorem cpxImm (m : Byte) : Statement (.cpxImm m) := rfl
theorem cpxZp (o : Byte) : Statement (.cpxZp o) := rfl
theorem cpxAbs (w : Word) : Statement (.cpxAbs w) := rfl
theorem cpyImm (m : Byte) : Statement (.cpyImm m) := rfl
theorem cpyZp (o : Byte) : Statement (.cpyZp o) := rfl
theorem cpyAbs (w : Word) : Statement (.cpyAbs w) := rfl
theorem incZp (o : Byte) : Statement (.incZp o) := rfl
theorem incZpx (o : Byte) : Statement (.incZpx o) := rfl
theorem incAbs (w : Word) : Statement (.incAbs w) := rfl
theorem incAbsx (w : Word) : Statement (.incAbsx w) := rfl
theorem decZp (o : Byte) : Statement (.decZp o) := rfl
theorem decZpx (o : Byte) : Statement (.decZpx o) := rfl
theorem decAbs (w : Word) : Statement (.decAbs w) := rfl
theorem decAbsx (w : Word) : Statement (.decAbsx w) := rfl
theorem inx : Statement (.inx) := rfl
theorem iny : Statement (.iny) := rfl
theorem dex : Statement (.dex) := rfl
theorem dey : Statement (.dey) := rfl
theorem adcImm (m : Byte) : Statement (.adcImm m) := rfl
theorem adcZp (o : Byte) : Statement (.adcZp o) := rfl
theorem adcZpx (o : Byte) : Statement (.adcZpx o) := rfl
theorem adcAbs (w : Word) : Statement (.adcAbs w) := rfl
theorem adcAbsx (w : Word) : Statement (.adcAbsx w) := rfl
theorem adcAbsy (w : Word) : Statement (.adcAbsy w) := rfl
theorem adcIndx (o : Byte) : Statement (.adcIndx o) := rfl
theorem adcIndy (o : Byte) : Statement (.adcIndy o) := rfl
theorem sbcImm (m : Byte) : Statement (.sbcImm m) := rfl
theorem sbcZp (o : Byte) : Statement (.sbcZp o) := rfl
theorem sbcZpx (o : Byte) : Statement (.sbcZpx o) := rfl
theorem sbcAbs (w : Word) : Statement (.sbcAbs w) := rfl
theorem sbcAbsx (w : Word) : Statement (.sbcAbsx w) := rfl
theorem sbcAbsy (w : Word) : Statement (.sbcAbsy w) := rfl
theorem sbcIndx (o : Byte) : Statement (.sbcIndx o) := rfl
theorem sbcIndy (o : Byte) : Statement (.sbcIndy o) := rfl
theorem aslAcc : Statement (.aslAcc) := rfl
theorem aslZp (o : Byte) : Statement (.aslZp o) := rfl
theorem aslZpx (o : Byte) : Statement (.aslZpx o) := rfl
theorem aslAbs (w : Word) : Statement (.aslAbs w) := rfl
theorem aslAbsx (w : Word) : Statement (.aslAbsx w) := rfl
theorem lsrAcc : Statement (.lsrAcc) := rfl
theorem lsrZp (o : Byte) : Statement (.lsrZp o) := rfl
theorem lsrZpx (o : Byte) : Statement (.lsrZpx o) := rfl
theorem lsrAbs (w : Word) : Statement (.lsrAbs w) := rfl
theorem lsrAbsx (w : Word) : Statement (.lsrAbsx w) := rfl
theorem rolAcc : Statement (.rolAcc) := rfl
theorem rolZp (o : Byte) : Statement (.rolZp o) := rfl
theorem rolZpx (o : Byte) : Statement (.rolZpx o) := rfl
theorem rolAbs (w : Word) : Statement (.rolAbs w) := rfl
theorem rolAbsx (w : Word) : Statement (.rolAbsx w) := rfl
theorem rorAcc : Statement (.rorAcc) := rfl
theorem rorZp (o : Byte) : Statement (.rorZp o) := rfl
theorem rorZpx (o : Byte) : Statement (.rorZpx o) := rfl
theorem rorAbs (w : Word) : Statement (.rorAbs w) := rfl
theorem rorAbsx (w : Word) : Statement (.rorAbsx w) := rfl
theorem ldaImm (m : Byte) : Statement (.ldaImm m) := rfl
theorem ldaZp (o : Byte) : Statement (.ldaZp o) := rfl
theorem ldaZpx (o : Byte) : Statement (.ldaZpx o) := rfl
theorem ldaAbs (w : Word) : Statement (.ldaAbs w) := rfl
theorem ldaAbsx (w : Word) : Statement (.ldaAbsx w) := rfl
theorem ldaAbsy (w : Word) : Statement (.ldaAbsy w) := rfl
theorem ldaIndx (o : Byte) : Statement (.ldaIndx o) := rfl
theorem ldaIndy (o : Byte) : Statement (.ldaIndy o) := rfl
theorem ldxImm (m : Byte) : Statement (.ldxImm m) := rfl
theorem ldxZp (o : Byte) : Statement (.ldxZp o) := rfl
theorem ldxZpy (o : Byte) : Statement (.ldxZpy o) := rfl
theorem ldxAbs (w : Word) : Statement (.ldxAbs w) := rfl
theorem ldxAbsy (w : Word) : Statement (.ldxAbsy w) := rfl
theorem ldyImm (m : Byte) : Statement (.ldyImm m) := rfl
theorem ldyZp (o : Byte) : Statement (.ldyZp o) := rfl
theorem ldyZpx (o : Byte) : Statement (.ldyZpx o) := rfl
theorem ldyAbs (w : Word) : Statement (.ldyAbs w) := rfl
theorem ldyAbsx (w : Word) : Statement (.ldyAbsx w) := rfl
theorem staZp (o : Byte) : Statement (.staZp o) := rfl
theorem staZpx (o : Byte) : Statement (.staZpx o) := rfl
theorem staAbs (w : Word) : Statement (.staAbs w) := rfl
theorem staAbsx (w : Word) : Statement (.staAbsx w) := rfl
theorem staAbsy (w : Word) : Statement (.staAbsy w) := rfl
theorem staIndx (o : Byte) : Statement (.staIndx o) := rfl
theorem staIndy (o : Byte) : Statement (.staIndy o) := rfl
theorem stxZp (o : Byte) : Statement (.stxZp o) := rfl
theorem stxZpy (o : Byte) : Statement (.stxZpy o) := rfl
theorem stxAbs (w : Word) : Statement (.stxAbs w) := rfl
theorem styZp (o : Byte) : Statement (.styZp o) := rfl
theorem styZpx (o : Byte) : Statement (.styZpx o) := rfl
theorem styAbs (w : Word) : Statement (.styAbs w) := rfl
theorem tax : Statement (.tax) := rfl
theorem tay : Statement (.tay) := rfl
theorem txa : Statement (.txa) := rfl
theorem tya : Statement (.tya) := rfl
theorem tsx : Statement (.tsx) := rfl
theorem txs : Statement (.txs) := rfl
theorem jmpAbs (target : Word) : Statement (.jmpAbs target) := rfl
theorem jmpInd (ptr : Word) : Statement (.jmpInd ptr) := rfl
theorem bcc (off : Byte) : Statement (.bcc off) := rfl
theorem bcs (off : Byte) : Statement (.bcs off) := rfl
theorem beq (off : Byte) : Statement (.beq off) := rfl
theorem bne (off : Byte) : Statement (.bne off) := rfl
theorem bmi (off : Byte) : Statement (.bmi off) := rfl
theorem bpl (off : Byte) : Statement (.bpl off) := rfl
theorem bvc (off : Byte) : Statement (.bvc off) := rfl
theorem bvs (off : Byte) : Statement (.bvs off) := rfl
theorem jsr (target : Word) : Statement (.jsr target) := rfl
theorem rts : Statement (.rts) := rfl
theorem pha : Statement (.pha) := rfl
theorem php : Statement (.php) := rfl
theorem pla : Statement (.pla) := rfl
theorem plp : Statement (.plp) := rfl
theorem clc : Statement (.clc) := rfl
theorem sec : Statement (.sec) := rfl
theorem cli : Statement (.cli) := rfl
theorem sei : Statement (.sei) := rfl
theorem clv : Statement (.clv) := rfl
theorem cld : Statement (.cld) := rfl
theorem sed : Statement (.sed) := rfl
theorem nop : Statement (.nop) := rfl
theorem brk : Statement (.brk) := rfl

end Sys2Proof.Laws.EncodedLength
end

