-- ==== Sys2Proof/Laws/Step.lean ====
section
/-! SUPPORT. The step, inverted: what the fetch delivers, and the only ways a step can end. -/

namespace Sys2Proof.Machine

/-! ### The fetch -/

/-- The fetch moves PC and changes nothing else. -/
theorem fetchOperand_snd (row : Row) (s : State) :
    (fetchOperand row s).2 = { s with pc := s.pc + BitVec.ofNat 16 row.operandBytes } := by
  cases row with
  | op0 instr => simp [fetchOperand, Row.operandBytes]
  | op1 mk => rfl
  | op2 mk => simp [fetchOperand, fetchByte, Row.operandBytes, BitVec.add_assoc]

theorem fetchInstr_of_unassigned {s : State} (h : decodeOpcode (s.memRead s.pc) = none) :
    fetchInstr s = .error (s.memRead s.pc, { s with pc := s.pc + 1 }) := by
  simp [fetchInstr, fetchByte, h]

theorem fetchInstr_of_row {s : State} {row : Row} (h : decodeOpcode (s.memRead s.pc) = some row) :
    fetchInstr s = .ok (fetchOperand row { s with pc := s.pc + 1 }) := by
  simp [fetchInstr, fetchByte, h]

/-- An instruction was fetched: its row is the opcode's, and PC has moved past opcode and operand. -/
theorem fetchInstr_ok {s t : State} {instr : Instr} (h : fetchInstr s = .ok (instr, t)) :
    ∃ row, decodeOpcode (s.memRead s.pc) = some row ∧
      instr = (fetchOperand row { s with pc := s.pc + 1 }).1 ∧
      t = { s with pc := s.pc + BitVec.ofNat 16 (1 + row.operandBytes) } := by
  cases hrow : decodeOpcode (s.memRead s.pc) with
  | none => simp [fetchInstr_of_unassigned hrow] at h
  | some row =>
    rw [fetchInstr_of_row hrow] at h
    have hpair := Except.ok.inj h
    refine ⟨row, rfl, by rw [hpair], ?_⟩
    have hsnd := fetchOperand_snd row { s with pc := s.pc + 1 }
    rw [hpair] at hsnd
    exact hsnd.trans (by simp [BitVec.add_assoc, BitVec.ofNat_add])

/-- No instruction was fetched: the opcode is unassigned and PC is past it. -/
theorem fetchInstr_error {s t : State} {opcode : Byte} (h : fetchInstr s = .error (opcode, t)) :
    decodeOpcode (s.memRead s.pc) = none ∧ opcode = s.memRead s.pc ∧ t = { s with pc := s.pc + 1 } := by
  cases hrow : decodeOpcode (s.memRead s.pc) with
  | none =>
    rw [fetchInstr_of_unassigned hrow] at h
    obtain ⟨rfl, rfl⟩ := Prod.mk.inj (Except.error.inj h)
    exact ⟨rfl, rfl, rfl⟩
  | some row => simp [fetchInstr_of_row hrow] at h

/-- The fetched instruction sees the memory and the registers of the state before the fetch; only PC differs. -/
theorem fetchInstr_ok_state {s t : State} {instr : Instr} (h : fetchInstr s = .ok (instr, t)) :
    t = { s with pc := t.pc } := by
  obtain ⟨row, -, -, rfl⟩ := fetchInstr_ok h
  rfl

/-! ### The step -/

theorem step_of_fetched {s t : State} {instr : Instr} (h : fetchInstr s = .ok (instr, t)) : step s = exec instr t := by
  simp [step, h]

/-- An unassigned opcode ends the step in the state it began in. -/
theorem step_of_unassigned {s : State} (h : decodeOpcode (s.memRead s.pc) = none) :
    step s = .fault (.illegalOpcode (s.memRead s.pc) s) := by
  simp [step, fetchInstr_of_unassigned h, raiseIllegalOpcode, raiseCondition]

/-- A step that completes executed the instruction it fetched. -/
theorem step_next {s t : State} (h : step s = .next t) :
    ∃ instr u, fetchInstr s = .ok (instr, u) ∧ exec instr u = .next t := by
  cases hf : fetchInstr s with
  | error e => simp [step, hf, raiseIllegalOpcode, raiseCondition] at h
  | ok p => exact ⟨p.1, p.2, rfl, by rwa [← step_of_fetched hf]⟩

/-- Nothing is ever refused by a step. -/
theorem step_not_refused (s : State) (r : Refusal) : step s ≠ .refused r := by
  intro h
  cases hf : fetchInstr s with
  | error e => simp [step, hf, raiseIllegalOpcode, raiseCondition] at h
  | ok p =>
    rw [step_of_fetched hf] at h
    rcases exec_cases p.1 p.2 with ⟨-, t, ht⟩ | ⟨-, ht⟩ <;> simp [ht] at h

end Sys2Proof.Machine
end

