-- ==== Sys2Proof/Tests/Slice0.lean ====
section
/-! SUPPORT. Tests. Every expected value comes from the spec: the decode words from Table A of 30_encoding.md R53 and
the formats of R50, the step vectors from 95_test_vectors.md section 2 (one step each, row ids in the comments), the
access lists from its access columns. At the end, witnesses: for every statement of Obligations.lean with hypotheses, a
state and operands that meet them, at the boundary values of each clause. -/

namespace Sys2Proof.Tests

open Sys2Proof.Machine Sys2Proof.Claims

/-! ### Well-formedness -/

/-- R233: a load that would pass 0xFFFF is ill-formed. -/
theorem test_load_past_end_refused : (LoadRequest.mk 0xFFFF [0x01, 0x02]).wellFormed = false := by decide

theorem test_load_up_to_end_accepted : (LoadRequest.mk 0xFFFE [0x01, 0x02]).wellFormed = true := by decide

/-- A listed zero byte, a repeated address, and an address outside the space are no canonical memory. -/
theorem test_memory_listed_zero_refused : ¬ Memory.wf [(3, 0x00)] := by decide

theorem test_memory_repeat_refused : ¬ Memory.wf [(3, 0x01), (3, 0x02)] := by decide

theorem test_memory_outside_refused : ¬ Memory.wf [(65536, 0x01)] := by decide

/-! ### Decoding, one word per opcode of Table A -/

/-- The bytes are exactly one instruction, this one. -/
def decodesTo (entry : List Byte × Instr) : Bool :=
  (decodeBytes entry.1).toOption == some (entry.2, [])

theorem test_decode_and :
    ([([0x29, 0x9A], .andImm 0x9A), ([0x25, 0x9A], .andZp 0x9A), ([0x35, 0x9A], .andZpx 0x9A),
      ([0x2D, 0x34, 0x12], .andAbs 0x1234), ([0x3D, 0x34, 0x12], .andAbsx 0x1234),
      ([0x39, 0x34, 0x12], .andAbsy 0x1234), ([0x21, 0x9A], .andIndx 0x9A), ([0x31, 0x9A], .andIndy 0x9A)] : List (List Byte × Instr)).all
      decodesTo = true := by decide

theorem test_decode_eor :
    ([([0x49, 0x9A], .eorImm 0x9A), ([0x45, 0x9A], .eorZp 0x9A), ([0x55, 0x9A], .eorZpx 0x9A),
      ([0x4D, 0x34, 0x12], .eorAbs 0x1234), ([0x5D, 0x34, 0x12], .eorAbsx 0x1234),
      ([0x59, 0x34, 0x12], .eorAbsy 0x1234), ([0x41, 0x9A], .eorIndx 0x9A), ([0x51, 0x9A], .eorIndy 0x9A)] : List (List Byte × Instr)).all
      decodesTo = true := by decide

theorem test_decode_ora :
    ([([0x09, 0x9A], .oraImm 0x9A), ([0x05, 0x9A], .oraZp 0x9A), ([0x15, 0x9A], .oraZpx 0x9A),
      ([0x0D, 0x34, 0x12], .oraAbs 0x1234), ([0x1D, 0x34, 0x12], .oraAbsx 0x1234),
      ([0x19, 0x34, 0x12], .oraAbsy 0x1234), ([0x01, 0x9A], .oraIndx 0x9A), ([0x11, 0x9A], .oraIndy 0x9A)] : List (List Byte × Instr)).all
      decodesTo = true := by decide

theorem test_decode_bit :
    ([([0x24, 0x9A], .bitZp 0x9A), ([0x2C, 0x34, 0x12], .bitAbs 0x1234)] : List (List Byte × Instr)).all
      decodesTo = true := by decide

theorem test_decode_cmp :
    ([([0xC9, 0x9A], .cmpImm 0x9A), ([0xC5, 0x9A], .cmpZp 0x9A), ([0xD5, 0x9A], .cmpZpx 0x9A),
      ([0xCD, 0x34, 0x12], .cmpAbs 0x1234), ([0xDD, 0x34, 0x12], .cmpAbsx 0x1234),
      ([0xD9, 0x34, 0x12], .cmpAbsy 0x1234), ([0xC1, 0x9A], .cmpIndx 0x9A), ([0xD1, 0x9A], .cmpIndy 0x9A)] : List (List Byte × Instr)).all
      decodesTo = true := by decide

theorem test_decode_cpx :
    ([([0xE0, 0x9A], .cpxImm 0x9A), ([0xE4, 0x9A], .cpxZp 0x9A), ([0xEC, 0x34, 0x12], .cpxAbs 0x1234)] : List (List Byte × Instr)).all
      decodesTo = true := by decide

theorem test_decode_cpy :
    ([([0xC0, 0x9A], .cpyImm 0x9A), ([0xC4, 0x9A], .cpyZp 0x9A), ([0xCC, 0x34, 0x12], .cpyAbs 0x1234)] : List (List Byte × Instr)).all
      decodesTo = true := by decide

theorem test_decode_inc :
    ([([0xE6, 0x9A], .incZp 0x9A), ([0xF6, 0x9A], .incZpx 0x9A), ([0xEE, 0x34, 0x12], .incAbs 0x1234),
      ([0xFE, 0x34, 0x12], .incAbsx 0x1234)] : List (List Byte × Instr)).all
      decodesTo = true := by decide

theorem test_decode_dec :
    ([([0xC6, 0x9A], .decZp 0x9A), ([0xD6, 0x9A], .decZpx 0x9A), ([0xCE, 0x34, 0x12], .decAbs 0x1234),
      ([0xDE, 0x34, 0x12], .decAbsx 0x1234)] : List (List Byte × Instr)).all
      decodesTo = true := by decide

theorem test_decode_register_inc_dec :
    ([([0xE8], .inx), ([0xC8], .iny), ([0xCA], .dex), ([0x88], .dey)] : List (List Byte × Instr)).all
      decodesTo = true := by decide

theorem test_decode_adc :
    ([([0x69, 0x9A], .adcImm 0x9A), ([0x65, 0x9A], .adcZp 0x9A), ([0x75, 0x9A], .adcZpx 0x9A),
      ([0x6D, 0x34, 0x12], .adcAbs 0x1234), ([0x7D, 0x34, 0x12], .adcAbsx 0x1234),
      ([0x79, 0x34, 0x12], .adcAbsy 0x1234), ([0x61, 0x9A], .adcIndx 0x9A), ([0x71, 0x9A], .adcIndy 0x9A)] : List (List Byte × Instr)).all
      decodesTo = true := by decide

theorem test_decode_sbc :
    ([([0xE9, 0x9A], .sbcImm 0x9A), ([0xE5, 0x9A], .sbcZp 0x9A), ([0xF5, 0x9A], .sbcZpx 0x9A),
      ([0xED, 0x34, 0x12], .sbcAbs 0x1234), ([0xFD, 0x34, 0x12], .sbcAbsx 0x1234),
      ([0xF9, 0x34, 0x12], .sbcAbsy 0x1234), ([0xE1, 0x9A], .sbcIndx 0x9A), ([0xF1, 0x9A], .sbcIndy 0x9A)] : List (List Byte × Instr)).all
      decodesTo = true := by decide

theorem test_decode_asl :
    ([([0x0A], .aslAcc), ([0x06, 0x9A], .aslZp 0x9A), ([0x16, 0x9A], .aslZpx 0x9A),
      ([0x0E, 0x34, 0x12], .aslAbs 0x1234), ([0x1E, 0x34, 0x12], .aslAbsx 0x1234)] : List (List Byte × Instr)).all
      decodesTo = true := by decide

theorem test_decode_lsr :
    ([([0x4A], .lsrAcc), ([0x46, 0x9A], .lsrZp 0x9A), ([0x56, 0x9A], .lsrZpx 0x9A),
      ([0x4E, 0x34, 0x12], .lsrAbs 0x1234), ([0x5E, 0x34, 0x12], .lsrAbsx 0x1234)] : List (List Byte × Instr)).all
      decodesTo = true := by decide

theorem test_decode_rol :
    ([([0x2A], .rolAcc), ([0x26, 0x9A], .rolZp 0x9A), ([0x36, 0x9A], .rolZpx 0x9A),
      ([0x2E, 0x34, 0x12], .rolAbs 0x1234), ([0x3E, 0x34, 0x12], .rolAbsx 0x1234)] : List (List Byte × Instr)).all
      decodesTo = true := by decide

theorem test_decode_ror :
    ([([0x6A], .rorAcc), ([0x66, 0x9A], .rorZp 0x9A), ([0x76, 0x9A], .rorZpx 0x9A),
      ([0x6E, 0x34, 0x12], .rorAbs 0x1234), ([0x7E, 0x34, 0x12], .rorAbsx 0x1234)] : List (List Byte × Instr)).all
      decodesTo = true := by decide

theorem test_decode_lda :
    ([([0xA9, 0x9A], .ldaImm 0x9A), ([0xA5, 0x9A], .ldaZp 0x9A), ([0xB5, 0x9A], .ldaZpx 0x9A),
      ([0xAD, 0x34, 0x12], .ldaAbs 0x1234), ([0xBD, 0x34, 0x12], .ldaAbsx 0x1234),
      ([0xB9, 0x34, 0x12], .ldaAbsy 0x1234), ([0xA1, 0x9A], .ldaIndx 0x9A), ([0xB1, 0x9A], .ldaIndy 0x9A)] : List (List Byte × Instr)).all
      decodesTo = true := by decide

theorem test_decode_ldx :
    ([([0xA2, 0x9A], .ldxImm 0x9A), ([0xA6, 0x9A], .ldxZp 0x9A), ([0xB6, 0x9A], .ldxZpy 0x9A),
      ([0xAE, 0x34, 0x12], .ldxAbs 0x1234), ([0xBE, 0x34, 0x12], .ldxAbsy 0x1234)] : List (List Byte × Instr)).all
      decodesTo = true := by decide

theorem test_decode_ldy :
    ([([0xA0, 0x9A], .ldyImm 0x9A), ([0xA4, 0x9A], .ldyZp 0x9A), ([0xB4, 0x9A], .ldyZpx 0x9A),
      ([0xAC, 0x34, 0x12], .ldyAbs 0x1234), ([0xBC, 0x34, 0x12], .ldyAbsx 0x1234)] : List (List Byte × Instr)).all
      decodesTo = true := by decide

theorem test_decode_sta :
    ([([0x85, 0x9A], .staZp 0x9A), ([0x95, 0x9A], .staZpx 0x9A), ([0x8D, 0x34, 0x12], .staAbs 0x1234),
      ([0x9D, 0x34, 0x12], .staAbsx 0x1234), ([0x99, 0x34, 0x12], .staAbsy 0x1234), ([0x81, 0x9A], .staIndx 0x9A),
      ([0x91, 0x9A], .staIndy 0x9A)] : List (List Byte × Instr)).all
      decodesTo = true := by decide

theorem test_decode_stx :
    ([([0x86, 0x9A], .stxZp 0x9A), ([0x96, 0x9A], .stxZpy 0x9A), ([0x8E, 0x34, 0x12], .stxAbs 0x1234)] : List (List Byte × Instr)).all
      decodesTo = true := by decide

theorem test_decode_sty :
    ([([0x84, 0x9A], .styZp 0x9A), ([0x94, 0x9A], .styZpx 0x9A), ([0x8C, 0x34, 0x12], .styAbs 0x1234)] : List (List Byte × Instr)).all
      decodesTo = true := by decide

theorem test_decode_transfers :
    ([([0xAA], .tax), ([0xA8], .tay), ([0x8A], .txa), ([0x98], .tya), ([0xBA], .tsx), ([0x9A], .txs)] : List (List Byte × Instr)).all
      decodesTo = true := by decide

theorem test_decode_jmp :
    ([([0x4C, 0x34, 0x12], .jmpAbs 0x1234), ([0x6C, 0x34, 0x12], .jmpInd 0x1234)] : List (List Byte × Instr)).all
      decodesTo = true := by decide

theorem test_decode_branches_jsr_rts :
    ([([0x90, 0x9A], .bcc 0x9A), ([0xB0, 0x9A], .bcs 0x9A), ([0xF0, 0x9A], .beq 0x9A), ([0xD0, 0x9A], .bne 0x9A),
      ([0x30, 0x9A], .bmi 0x9A), ([0x10, 0x9A], .bpl 0x9A), ([0x50, 0x9A], .bvc 0x9A), ([0x70, 0x9A], .bvs 0x9A),
      ([0x20, 0x34, 0x12], .jsr 0x1234), ([0x60], .rts)] : List (List Byte × Instr)).all
      decodesTo = true := by decide

theorem test_decode_stack_flags_nop :
    ([([0x48], .pha), ([0x08], .php), ([0x68], .pla), ([0x28], .plp), ([0x18], .clc), ([0x38], .sec), ([0x58], .cli),
      ([0x78], .sei), ([0xB8], .clv), ([0xD8], .cld), ([0xF8], .sed), ([0xEA], .nop)] : List (List Byte × Instr)).all
      decodesTo = true := by decide

theorem test_decode_brk :
    ([([0x00], .brk)] : List (List Byte × Instr)).all
      decodesTo = true := by decide

/-- The 106 unassigned bytes of R54 are rejected by name, 0x40 (RTI on a real 6502) among them. -/
theorem test_unassigned_rejected :
    (decodeBytes [0x40] = .error (.unassigned 0x40)) ∧ (decodeBytes [0xEB, 0x01] = .error (.unassigned 0xEB)) :=
  ⟨rfl, rfl⟩

theorem test_truncated_rejected : decodeBytes [0xAD, 0x34] = .error .truncated := rfl

/-! ### One step, the vectors of 95_test_vectors.md section 2 -/

/-- What a vector says of the outcome: Ok with these registers and flags, or a halting condition. -/
inductive Expected where
  | ok (regs : State)
  | brk
  | illegal (opcode : Byte)

/-- A start: registers and flags, memory bytes, and the bytes placed at PC. -/
structure Start where
  regs : State
  mem : List (Word × Byte)
  code : List Byte

/-- A vector: a start, the outcome, and the memory bytes changed. -/
structure StepVector extends Start where
  expected : Expected
  changed : List (Word × Byte)

def Start.state (start : Start) : State :=
  start.mem.foldl (fun s p => s.memWrite p.1 p.2) (start.regs.memWriteBytes start.regs.pc start.code)

def StepVector.passes (t : StepVector) : Bool :=
  let s := t.toStart.state
  let mem' := (t.changed.foldl (fun s p => s.memWrite p.1 p.2) s).mem
  match step s, t.expected with
  | .next s', .ok regs => decide (s' = { regs with mem := mem' })
  | .fault (.brk h), .brk => decide (h = s)
  | .fault (.illegalOpcode op h), .illegal op' => decide (op = op' ∧ h = s)
  | _, _ => false

/-- 2.1 Addressing modes and instruction fetch. -/
def vectors_2_1_a : List StepVector := [
  -- A1 INX
  ⟨⟨{ State.reset with x := 0x01 }, [], [0xE8]⟩,
    .ok ({ State.reset with pc := 0x0401, x := 0x02 }), []⟩,
  -- A2 ASL A
  ⟨⟨{ State.reset with a := 0x81 }, [], [0x0A]⟩,
    .ok ({ State.reset with pc := 0x0401, a := 0x02, c := true }), []⟩,
  -- A3 LDA #$80
  ⟨⟨State.reset, [], [0xA9, 0x80]⟩,
    .ok ({ State.reset with pc := 0x0402, a := 0x80, n := true }), []⟩,
  -- A4 LDA $10
  ⟨⟨State.reset, [(0x0010, 0x55)], [0xA5, 0x10]⟩,
    .ok ({ State.reset with pc := 0x0402, a := 0x55 }), []⟩,
  -- A5 LDA $F0,X
  ⟨⟨{ State.reset with x := 0x20 }, [(0x0010, 0x77), (0x0110, 0x99)], [0xB5, 0xF0]⟩,
    .ok ({ State.reset with pc := 0x0402, a := 0x77, x := 0x20 }), []⟩,
  -- A6 LDX $FF,Y
  ⟨⟨{ State.reset with y := 0x02 }, [(0x0001, 0x66), (0x0101, 0x99)], [0xB6, 0xFF]⟩,
    .ok ({ State.reset with pc := 0x0402, x := 0x66, y := 0x02 }), []⟩,
  -- A7 LDA $1234
  ⟨⟨State.reset, [(0x1234, 0x5A)], [0xAD, 0x34, 0x12]⟩,
    .ok ({ State.reset with pc := 0x0403, a := 0x5A }), []⟩,
  -- A8 LDA $12F0,X
  ⟨⟨{ State.reset with x := 0x20 }, [(0x1310, 0x33)], [0xBD, 0xF0, 0x12]⟩,
    .ok ({ State.reset with pc := 0x0403, a := 0x33, x := 0x20 }), []⟩,
  -- A9 LDA $FFFF,X
  ⟨⟨{ State.reset with x := 0x02 }, [(0x0001, 0x44)], [0xBD, 0xFF, 0xFF]⟩,
    .ok ({ State.reset with pc := 0x0403, a := 0x44, x := 0x02 }), []⟩,
  -- A10 LDA $FFFF,Y
  ⟨⟨{ State.reset with y := 0x01 }, [(0x0000, 0x45)], [0xB9, 0xFF, 0xFF]⟩,
    .ok ({ State.reset with pc := 0x0403, a := 0x45, y := 0x01 }), []⟩,
  -- A11 LDA ($20,X)
  ⟨⟨{ State.reset with x := 0x04 }, [(0x0024, 0x74), (0x0025, 0x20), (0x2074, 0xAB)], [0xA1, 0x20]⟩,
    .ok ({ State.reset with pc := 0x0402, a := 0xAB, x := 0x04, n := true }), []⟩,
  -- A12 LDA ($F0,X)
  ⟨⟨{ State.reset with x := 0x20 }, [(0x0010, 0x00), (0x0011, 0x30), (0x3000, 0x12)], [0xA1, 0xF0]⟩,
    .ok ({ State.reset with pc := 0x0402, a := 0x12, x := 0x20 }), []⟩,
  -- A13 LDA ($FE,X)
  ⟨⟨{ State.reset with x := 0x01 }, [(0x0000, 0x12), (0x00FF, 0x34), (0x0100, 0x56), (0x1234, 0xC1), (0x5634, 0xC2)], [0xA1, 0xFE]⟩,
    .ok ({ State.reset with pc := 0x0402, a := 0xC1, x := 0x01, n := true }), []⟩,
  -- A14 LDA ($86),Y
  ⟨⟨{ State.reset with y := 0x10 }, [(0x0086, 0x28), (0x0087, 0x40), (0x4038, 0x99)], [0xB1, 0x86]⟩,
    .ok ({ State.reset with pc := 0x0402, a := 0x99, y := 0x10, n := true }), []⟩,
  -- A15 LDA ($FF),Y
  ⟨⟨{ State.reset with y := 0x01 }, [(0x0000, 0x12), (0x00FF, 0x34), (0x0100, 0x56), (0x1235, 0xD1), (0x5635, 0xD2)], [0xB1, 0xFF]⟩,
    .ok ({ State.reset with pc := 0x0402, a := 0xD1, y := 0x01, n := true }), []⟩,
  -- A16 LDA ($40),Y
  ⟨⟨{ State.reset with y := 0x02 }, [(0x0001, 0x7E), (0x0040, 0xFF), (0x0041, 0xFF)], [0xB1, 0x40]⟩,
    .ok ({ State.reset with pc := 0x0402, a := 0x7E, y := 0x02 }), []⟩,
  -- A17 STA ($40),Y
  ⟨⟨{ State.reset with a := 0xEE, y := 0xFF }, [(0x0040, 0x80), (0x0041, 0x20)], [0x91, 0x40]⟩,
    .ok ({ State.reset with pc := 0x0402, a := 0xEE, y := 0xFF }), [(0x217F, 0xEE)]⟩,
  -- A18 JMP ($0300)
  ⟨⟨State.reset, [(0x0300, 0x34), (0x0301, 0x12)], [0x6C, 0x00, 0x03]⟩,
    .ok ({ State.reset with pc := 0x1234 }), []⟩]

theorem test_vectors_2_1_a : vectors_2_1_a.all StepVector.passes = true := by decide

/-- 2.1 Addressing modes and instruction fetch. -/
def vectors_2_1_b : List StepVector := [
  -- A19 JMP ($02FF)
  ⟨⟨State.reset, [(0x0200, 0x05), (0x02FF, 0x00), (0x0300, 0x06)], [0x6C, 0xFF, 0x02]⟩,
    .ok ({ State.reset with pc := 0x0500 }), []⟩,
  -- A20 JMP ($FFFF)
  ⟨⟨State.reset, [(0x0000, 0x65), (0xFF00, 0x43), (0xFFFF, 0x21)], [0x6C, 0xFF, 0xFF]⟩,
    .ok ({ State.reset with pc := 0x4321 }), []⟩,
  -- A21 LDA #$7F (at 0xFFFF)
  ⟨⟨{ State.reset with pc := 0xFFFF }, [], [0xA9, 0x7F]⟩,
    .ok ({ State.reset with pc := 0x0001, a := 0x7F }), []⟩,
  -- A22 LDA $0300 (at 0xFFFE)
  ⟨⟨{ State.reset with pc := 0xFFFE }, [(0x0300, 0x81)], [0xAD, 0x00, 0x03]⟩,
    .ok ({ State.reset with pc := 0x0001, a := 0x81, n := true }), []⟩]

theorem test_vectors_2_1_b : vectors_2_1_b.all StepVector.passes = true := by decide

/-- 2.2 Logic, BIT and compare. -/
def vectors_2_2_a : List StepVector := [
  -- B1 AND #$3C
  ⟨⟨{ State.reset with a := 0xF0 }, [], [0x29, 0x3C]⟩,
    .ok ({ State.reset with pc := 0x0402, a := 0x30 }), []⟩,
  -- B2 AND #$0F
  ⟨⟨{ State.reset with a := 0xF0, n := true }, [], [0x29, 0x0F]⟩,
    .ok ({ State.reset with pc := 0x0402, z := true }), []⟩,
  -- B3 AND $10
  ⟨⟨{ State.reset with a := 0xFF, v := true, c := true }, [(0x0010, 0x80)], [0x25, 0x10]⟩,
    .ok ({ State.reset with pc := 0x0402, a := 0x80, n := true, v := true, c := true }), []⟩,
  -- B4 EOR #$0F
  ⟨⟨{ State.reset with a := 0xFF }, [], [0x49, 0x0F]⟩,
    .ok ({ State.reset with pc := 0x0402, a := 0xF0, n := true }), []⟩,
  -- B5 EOR #$AA
  ⟨⟨{ State.reset with a := 0xAA }, [], [0x49, 0xAA]⟩,
    .ok ({ State.reset with pc := 0x0402, z := true }), []⟩,
  -- B6 ORA #$80
  ⟨⟨{ State.reset with a := 0x01 }, [], [0x09, 0x80]⟩,
    .ok ({ State.reset with pc := 0x0402, a := 0x81, n := true }), []⟩,
  -- B7 ORA #$00
  ⟨⟨State.reset, [], [0x09, 0x00]⟩,
    .ok ({ State.reset with pc := 0x0402, z := true }), []⟩,
  -- B8 BIT $10
  ⟨⟨{ State.reset with a := 0x0F }, [(0x0010, 0x70)], [0x24, 0x10]⟩,
    .ok ({ State.reset with pc := 0x0402, a := 0x0F, v := true, z := true }), []⟩,
  -- B9 BIT $0200
  ⟨⟨{ State.reset with a := 0x80 }, [(0x0200, 0xC0)], [0x2C, 0x00, 0x02]⟩,
    .ok ({ State.reset with pc := 0x0403, a := 0x80, n := true, v := true }), []⟩,
  -- B10 BIT $10
  ⟨⟨{ State.reset with a := 0xFF, n := true, v := true }, [(0x0010, 0x01)], [0x24, 0x10]⟩,
    .ok ({ State.reset with pc := 0x0402, a := 0xFF }), []⟩,
  -- B11 BIT $10
  ⟨⟨{ State.reset with c := true }, [(0x0010, 0x00)], [0x24, 0x10]⟩,
    .ok ({ State.reset with pc := 0x0402, z := true, c := true }), []⟩,
  -- B12 CMP #$42
  ⟨⟨{ State.reset with a := 0x42 }, [], [0xC9, 0x42]⟩,
    .ok ({ State.reset with pc := 0x0402, a := 0x42, z := true, c := true }), []⟩,
  -- B13 CMP #$84
  ⟨⟨{ State.reset with a := 0x01 }, [], [0xC9, 0x84]⟩,
    .ok ({ State.reset with pc := 0x0402, a := 0x01 }), []⟩,
  -- B14 CMP #$01
  ⟨⟨State.reset, [], [0xC9, 0x01]⟩,
    .ok ({ State.reset with pc := 0x0402, n := true }), []⟩,
  -- B15 CMP #$00
  ⟨⟨{ State.reset with a := 0x80, v := true }, [], [0xC9, 0x00]⟩,
    .ok ({ State.reset with pc := 0x0402, a := 0x80, n := true, v := true, c := true }), []⟩,
  -- B16 CMP #$FF
  ⟨⟨{ State.reset with a := 0xFF }, [], [0xC9, 0xFF]⟩,
    .ok ({ State.reset with pc := 0x0402, a := 0xFF, z := true, c := true }), []⟩,
  -- B17 CMP #$80
  ⟨⟨{ State.reset with a := 0x7F }, [], [0xC9, 0x80]⟩,
    .ok ({ State.reset with pc := 0x0402, a := 0x7F, n := true }), []⟩,
  -- B18 CPX #$20
  ⟨⟨{ State.reset with x := 0x10 }, [], [0xE0, 0x20]⟩,
    .ok ({ State.reset with pc := 0x0402, x := 0x10, n := true }), []⟩]

theorem test_vectors_2_2_a : vectors_2_2_a.all StepVector.passes = true := by decide

/-- 2.2 Logic, BIT and compare. -/
def vectors_2_2_b : List StepVector := [
  -- B19 CPX $10
  ⟨⟨{ State.reset with x := 0x10 }, [(0x0010, 0x0F)], [0xE4, 0x10]⟩,
    .ok ({ State.reset with pc := 0x0402, x := 0x10, c := true }), []⟩,
  -- B20 CPY #$05
  ⟨⟨{ State.reset with y := 0x05 }, [], [0xC0, 0x05]⟩,
    .ok ({ State.reset with pc := 0x0402, y := 0x05, z := true, c := true }), []⟩,
  -- B21 CPY $0200
  ⟨⟨State.reset, [(0x0200, 0xFF)], [0xCC, 0x00, 0x02]⟩,
    .ok ({ State.reset with pc := 0x0403 }), []⟩]

theorem test_vectors_2_2_b : vectors_2_2_b.all StepVector.passes = true := by decide

/-- 2.3 Increment and decrement. -/
def vectors_2_3 : List StepVector := [
  -- C1 INC $10
  ⟨⟨State.reset, [(0x0010, 0xFF)], [0xE6, 0x10]⟩,
    .ok ({ State.reset with pc := 0x0402, z := true }), [(0x0010, 0x00)]⟩,
  -- C2 INC $10,X
  ⟨⟨{ State.reset with x := 0xF8, c := true }, [(0x0008, 0x7F)], [0xF6, 0x10]⟩,
    .ok ({ State.reset with pc := 0x0402, x := 0xF8, n := true, c := true }), [(0x0008, 0x80)]⟩,
  -- C3 INC $0200
  ⟨⟨State.reset, [(0x0200, 0x00)], [0xEE, 0x00, 0x02]⟩,
    .ok ({ State.reset with pc := 0x0403 }), [(0x0200, 0x01)]⟩,
  -- C4 INC $0200,X
  ⟨⟨{ State.reset with x := 0x01 }, [(0x0201, 0xFE)], [0xFE, 0x00, 0x02]⟩,
    .ok ({ State.reset with pc := 0x0403, x := 0x01, n := true }), [(0x0201, 0xFF)]⟩,
  -- C5 DEC $0200
  ⟨⟨State.reset, [(0x0200, 0x01)], [0xCE, 0x00, 0x02]⟩,
    .ok ({ State.reset with pc := 0x0403, z := true }), [(0x0200, 0x00)]⟩,
  -- C6 DEC $10
  ⟨⟨State.reset, [(0x0010, 0x00)], [0xC6, 0x10]⟩,
    .ok ({ State.reset with pc := 0x0402, n := true }), [(0x0010, 0xFF)]⟩,
  -- C7 DEC $10,X
  ⟨⟨{ State.reset with x := 0x01 }, [(0x0011, 0x80)], [0xD6, 0x10]⟩,
    .ok ({ State.reset with pc := 0x0402, x := 0x01 }), [(0x0011, 0x7F)]⟩,
  -- C8 DEC $0200,X
  ⟨⟨{ State.reset with x := 0xFF, c := true }, [(0x02FF, 0x81)], [0xDE, 0x00, 0x02]⟩,
    .ok ({ State.reset with pc := 0x0403, x := 0xFF, n := true, c := true }), [(0x02FF, 0x80)]⟩,
  -- C9 INX
  ⟨⟨{ State.reset with x := 0xFF }, [], [0xE8]⟩,
    .ok ({ State.reset with pc := 0x0401, z := true }), []⟩,
  -- C10 INX
  ⟨⟨{ State.reset with x := 0x7F, c := true }, [], [0xE8]⟩,
    .ok ({ State.reset with pc := 0x0401, x := 0x80, n := true, c := true }), []⟩,
  -- C11 INY
  ⟨⟨{ State.reset with y := 0x7F }, [], [0xC8]⟩,
    .ok ({ State.reset with pc := 0x0401, y := 0x80, n := true }), []⟩,
  -- C12 INY
  ⟨⟨{ State.reset with y := 0xFF }, [], [0xC8]⟩,
    .ok ({ State.reset with pc := 0x0401, z := true }), []⟩,
  -- C13 DEX
  ⟨⟨State.reset, [], [0xCA]⟩,
    .ok ({ State.reset with pc := 0x0401, x := 0xFF, n := true }), []⟩,
  -- C14 DEX
  ⟨⟨{ State.reset with x := 0x01 }, [], [0xCA]⟩,
    .ok ({ State.reset with pc := 0x0401, z := true }), []⟩,
  -- C15 DEY
  ⟨⟨{ State.reset with y := 0x01 }, [], [0x88]⟩,
    .ok ({ State.reset with pc := 0x0401, z := true }), []⟩,
  -- C16 DEY
  ⟨⟨{ State.reset with y := 0x80, c := true }, [], [0x88]⟩,
    .ok ({ State.reset with pc := 0x0401, y := 0x7F, c := true }), []⟩]

theorem test_vectors_2_3 : vectors_2_3.all StepVector.passes = true := by decide

/-- 2.4 ADC and SBC. -/
def vectors_2_4_a : List StepVector := [
  -- D1 ADC #$50
  ⟨⟨{ State.reset with a := 0x50 }, [], [0x69, 0x50]⟩,
    .ok ({ State.reset with pc := 0x0402, a := 0xA0, n := true, v := true }), []⟩,
  -- D2 ADC #$10
  ⟨⟨{ State.reset with a := 0x50 }, [], [0x69, 0x10]⟩,
    .ok ({ State.reset with pc := 0x0402, a := 0x60 }), []⟩,
  -- D3 ADC #$90
  ⟨⟨{ State.reset with a := 0x50 }, [], [0x69, 0x90]⟩,
    .ok ({ State.reset with pc := 0x0402, a := 0xE0, n := true }), []⟩,
  -- D4 ADC #$D0
  ⟨⟨{ State.reset with a := 0x50 }, [], [0x69, 0xD0]⟩,
    .ok ({ State.reset with pc := 0x0402, a := 0x20, c := true }), []⟩,
  -- D5 ADC #$10
  ⟨⟨{ State.reset with a := 0xD0 }, [], [0x69, 0x10]⟩,
    .ok ({ State.reset with pc := 0x0402, a := 0xE0, n := true }), []⟩,
  -- D6 ADC #$50
  ⟨⟨{ State.reset with a := 0xD0 }, [], [0x69, 0x50]⟩,
    .ok ({ State.reset with pc := 0x0402, a := 0x20, c := true }), []⟩,
  -- D7 ADC #$90
  ⟨⟨{ State.reset with a := 0xD0 }, [], [0x69, 0x90]⟩,
    .ok ({ State.reset with pc := 0x0402, a := 0x60, v := true, c := true }), []⟩,
  -- D8 ADC #$D0
  ⟨⟨{ State.reset with a := 0xD0 }, [], [0x69, 0xD0]⟩,
    .ok ({ State.reset with pc := 0x0402, a := 0xA0, n := true, c := true }), []⟩,
  -- D9 ADC #$01
  ⟨⟨{ State.reset with a := 0xFF }, [], [0x69, 0x01]⟩,
    .ok ({ State.reset with pc := 0x0402, z := true, c := true }), []⟩,
  -- D10 ADC #$00
  ⟨⟨{ State.reset with a := 0xFF, c := true }, [], [0x69, 0x00]⟩,
    .ok ({ State.reset with pc := 0x0402, z := true, c := true }), []⟩,
  -- D11 ADC #$00
  ⟨⟨{ State.reset with a := 0x7F, c := true }, [], [0x69, 0x00]⟩,
    .ok ({ State.reset with pc := 0x0402, a := 0x80, n := true, v := true }), []⟩,
  -- D12 ADC #$00
  ⟨⟨State.reset, [], [0x69, 0x00]⟩,
    .ok ({ State.reset with pc := 0x0402, z := true }), []⟩,
  -- D13 ADC #$FF
  ⟨⟨{ State.reset with a := 0xFF, c := true }, [], [0x69, 0xFF]⟩,
    .ok ({ State.reset with pc := 0x0402, a := 0xFF, n := true, c := true }), []⟩,
  -- D14 ADC #$80
  ⟨⟨{ State.reset with a := 0x80 }, [], [0x69, 0x80]⟩,
    .ok ({ State.reset with pc := 0x0402, v := true, z := true, c := true }), []⟩,
  -- D15 ADC #$01
  ⟨⟨{ State.reset with a := 0x01, c := true }, [], [0x69, 0x01]⟩,
    .ok ({ State.reset with pc := 0x0402, a := 0x03 }), []⟩,
  -- D16 ADC #$01 (D=1)
  ⟨⟨{ State.reset with a := 0x09, d := true }, [], [0x69, 0x01]⟩,
    .ok ({ State.reset with pc := 0x0402, a := 0x0A, d := true }), []⟩,
  -- D17 ADC $10
  ⟨⟨{ State.reset with a := 0x01, c := true }, [(0x0010, 0x02)], [0x65, 0x10]⟩,
    .ok ({ State.reset with pc := 0x0402, a := 0x04 }), []⟩,
  -- D18 SBC #$F0
  ⟨⟨{ State.reset with a := 0x50, c := true }, [], [0xE9, 0xF0]⟩,
    .ok ({ State.reset with pc := 0x0402, a := 0x60 }), []⟩]

theorem test_vectors_2_4_a : vectors_2_4_a.all StepVector.passes = true := by decide

/-- 2.4 ADC and SBC. -/
def vectors_2_4_b : List StepVector := [
  -- D19 SBC #$B0
  ⟨⟨{ State.reset with a := 0x50, c := true }, [], [0xE9, 0xB0]⟩,
    .ok ({ State.reset with pc := 0x0402, a := 0xA0, n := true, v := true }), []⟩,
  -- D20 SBC #$70
  ⟨⟨{ State.reset with a := 0x50, c := true }, [], [0xE9, 0x70]⟩,
    .ok ({ State.reset with pc := 0x0402, a := 0xE0, n := true }), []⟩,
  -- D21 SBC #$30
  ⟨⟨{ State.reset with a := 0x50, c := true }, [], [0xE9, 0x30]⟩,
    .ok ({ State.reset with pc := 0x0402, a := 0x20, c := true }), []⟩,
  -- D22 SBC #$F0
  ⟨⟨{ State.reset with a := 0xD0, c := true }, [], [0xE9, 0xF0]⟩,
    .ok ({ State.reset with pc := 0x0402, a := 0xE0, n := true }), []⟩,
  -- D23 SBC #$B0
  ⟨⟨{ State.reset with a := 0xD0, c := true }, [], [0xE9, 0xB0]⟩,
    .ok ({ State.reset with pc := 0x0402, a := 0x20, c := true }), []⟩,
  -- D24 SBC #$70
  ⟨⟨{ State.reset with a := 0xD0, c := true }, [], [0xE9, 0x70]⟩,
    .ok ({ State.reset with pc := 0x0402, a := 0x60, v := true, c := true }), []⟩,
  -- D25 SBC #$30
  ⟨⟨{ State.reset with a := 0xD0, c := true }, [], [0xE9, 0x30]⟩,
    .ok ({ State.reset with pc := 0x0402, a := 0xA0, n := true, c := true }), []⟩,
  -- D26 SBC #$01
  ⟨⟨{ State.reset with c := true }, [], [0xE9, 0x01]⟩,
    .ok ({ State.reset with pc := 0x0402, a := 0xFF, n := true }), []⟩,
  -- D27 SBC #$00
  ⟨⟨{ State.reset with c := true }, [], [0xE9, 0x00]⟩,
    .ok ({ State.reset with pc := 0x0402, z := true, c := true }), []⟩,
  -- D28 SBC #$00
  ⟨⟨State.reset, [], [0xE9, 0x00]⟩,
    .ok ({ State.reset with pc := 0x0402, a := 0xFF, n := true }), []⟩,
  -- D29 SBC #$01
  ⟨⟨{ State.reset with a := 0x80, c := true }, [], [0xE9, 0x01]⟩,
    .ok ({ State.reset with pc := 0x0402, a := 0x7F, v := true, c := true }), []⟩,
  -- D30 SBC #$FF
  ⟨⟨{ State.reset with a := 0x7F, c := true }, [], [0xE9, 0xFF]⟩,
    .ok ({ State.reset with pc := 0x0402, a := 0x80, n := true, v := true }), []⟩,
  -- D31 SBC #$42
  ⟨⟨{ State.reset with a := 0x42, c := true }, [], [0xE9, 0x42]⟩,
    .ok ({ State.reset with pc := 0x0402, z := true, c := true }), []⟩,
  -- D32 SBC #$42
  ⟨⟨{ State.reset with a := 0x42 }, [], [0xE9, 0x42]⟩,
    .ok ({ State.reset with pc := 0x0402, a := 0xFF, n := true }), []⟩,
  -- D33 SBC #$03
  ⟨⟨{ State.reset with a := 0x05 }, [], [0xE9, 0x03]⟩,
    .ok ({ State.reset with pc := 0x0402, a := 0x01, c := true }), []⟩,
  -- D34 SBC #$01 (D=1)
  ⟨⟨{ State.reset with a := 0x10, d := true, c := true }, [], [0xE9, 0x01]⟩,
    .ok ({ State.reset with pc := 0x0402, a := 0x0F, d := true, c := true }), []⟩]

theorem test_vectors_2_4_b : vectors_2_4_b.all StepVector.passes = true := by decide

/-- 2.5 Shifts and rotates. -/
def vectors_2_5 : List StepVector := [
  -- E1 ASL A
  ⟨⟨{ State.reset with a := 0x81 }, [], [0x0A]⟩,
    .ok ({ State.reset with pc := 0x0401, a := 0x02, c := true }), []⟩,
  -- E2 ASL A
  ⟨⟨{ State.reset with a := 0x80 }, [], [0x0A]⟩,
    .ok ({ State.reset with pc := 0x0401, z := true, c := true }), []⟩,
  -- E3 ASL A
  ⟨⟨{ State.reset with a := 0x40, c := true }, [], [0x0A]⟩,
    .ok ({ State.reset with pc := 0x0401, a := 0x80, n := true }), []⟩,
  -- E4 ASL $10
  ⟨⟨State.reset, [(0x0010, 0xFF)], [0x06, 0x10]⟩,
    .ok ({ State.reset with pc := 0x0402, n := true, c := true }), [(0x0010, 0xFE)]⟩,
  -- E5 ASL $0200,X
  ⟨⟨{ State.reset with x := 0x02 }, [(0x0202, 0x01)], [0x1E, 0x00, 0x02]⟩,
    .ok ({ State.reset with pc := 0x0403, x := 0x02 }), [(0x0202, 0x02)]⟩,
  -- E6 LSR A
  ⟨⟨{ State.reset with a := 0x03 }, [], [0x4A]⟩,
    .ok ({ State.reset with pc := 0x0401, a := 0x01, c := true }), []⟩,
  -- E7 LSR A
  ⟨⟨{ State.reset with a := 0x01, n := true }, [], [0x4A]⟩,
    .ok ({ State.reset with pc := 0x0401, z := true, c := true }), []⟩,
  -- E8 LSR A
  ⟨⟨{ State.reset with a := 0x80, c := true }, [], [0x4A]⟩,
    .ok ({ State.reset with pc := 0x0401, a := 0x40 }), []⟩,
  -- E9 LSR $10,X
  ⟨⟨{ State.reset with x := 0x01 }, [(0x0011, 0xFE)], [0x56, 0x10]⟩,
    .ok ({ State.reset with pc := 0x0402, x := 0x01 }), [(0x0011, 0x7F)]⟩,
  -- E10 ROL A
  ⟨⟨{ State.reset with a := 0x40, c := true }, [], [0x2A]⟩,
    .ok ({ State.reset with pc := 0x0401, a := 0x81, n := true }), []⟩,
  -- E11 ROL A
  ⟨⟨{ State.reset with a := 0x80 }, [], [0x2A]⟩,
    .ok ({ State.reset with pc := 0x0401, z := true, c := true }), []⟩,
  -- E12 ROL A
  ⟨⟨{ State.reset with a := 0xFF, c := true }, [], [0x2A]⟩,
    .ok ({ State.reset with pc := 0x0401, a := 0xFF, n := true, c := true }), []⟩,
  -- E13 ROL $0200
  ⟨⟨{ State.reset with c := true }, [(0x0200, 0x00)], [0x2E, 0x00, 0x02]⟩,
    .ok ({ State.reset with pc := 0x0403 }), [(0x0200, 0x01)]⟩,
  -- E14 ROR A
  ⟨⟨{ State.reset with a := 0x02, c := true }, [], [0x6A]⟩,
    .ok ({ State.reset with pc := 0x0401, a := 0x81, n := true }), []⟩,
  -- E15 ROR A
  ⟨⟨{ State.reset with a := 0x01 }, [], [0x6A]⟩,
    .ok ({ State.reset with pc := 0x0401, z := true, c := true }), []⟩,
  -- E16 ROR A
  ⟨⟨{ State.reset with c := true }, [], [0x6A]⟩,
    .ok ({ State.reset with pc := 0x0401, a := 0x80, n := true }), []⟩,
  -- E17 ROR A
  ⟨⟨{ State.reset with a := 0xFF, c := true }, [], [0x6A]⟩,
    .ok ({ State.reset with pc := 0x0401, a := 0xFF, n := true, c := true }), []⟩,
  -- E18 ROR $10
  ⟨⟨State.reset, [(0x0010, 0x81)], [0x66, 0x10]⟩,
    .ok ({ State.reset with pc := 0x0402, c := true }), [(0x0010, 0x40)]⟩]

theorem test_vectors_2_5 : vectors_2_5.all StepVector.passes = true := by decide

/-- 2.6 Loads, stores, transfers. -/
def vectors_2_6_a : List StepVector := [
  -- F1 LDA #$11
  ⟨⟨State.reset, [], [0xA9, 0x11]⟩,
    .ok ({ State.reset with pc := 0x0402, a := 0x11 }), []⟩,
  -- F2 LDA #$00
  ⟨⟨{ State.reset with a := 0x55, n := true }, [], [0xA9, 0x00]⟩,
    .ok ({ State.reset with pc := 0x0402, z := true }), []⟩,
  -- F3 LDA #$FF
  ⟨⟨{ State.reset with v := true, c := true }, [], [0xA9, 0xFF]⟩,
    .ok ({ State.reset with pc := 0x0402, a := 0xFF, n := true, v := true, c := true }), []⟩,
  -- F4 LDX #$22
  ⟨⟨State.reset, [], [0xA2, 0x22]⟩,
    .ok ({ State.reset with pc := 0x0402, x := 0x22 }), []⟩,
  -- F5 LDX $10,Y
  ⟨⟨{ State.reset with y := 0x01 }, [(0x0011, 0x80)], [0xB6, 0x10]⟩,
    .ok ({ State.reset with pc := 0x0402, x := 0x80, y := 0x01, n := true }), []⟩,
  -- F6 LDX $0200,Y
  ⟨⟨{ State.reset with y := 0x10 }, [(0x0210, 0x00)], [0xBE, 0x00, 0x02]⟩,
    .ok ({ State.reset with pc := 0x0403, y := 0x10, z := true }), []⟩,
  -- F7 LDY #$33
  ⟨⟨State.reset, [], [0xA0, 0x33]⟩,
    .ok ({ State.reset with pc := 0x0402, y := 0x33 }), []⟩,
  -- F8 LDY $10,X
  ⟨⟨{ State.reset with x := 0x02 }, [(0x0012, 0x90)], [0xB4, 0x10]⟩,
    .ok ({ State.reset with pc := 0x0402, x := 0x02, y := 0x90, n := true }), []⟩,
  -- F9 LDY $0200,X
  ⟨⟨{ State.reset with x := 0xFF }, [(0x02FF, 0x01)], [0xBC, 0x00, 0x02]⟩,
    .ok ({ State.reset with pc := 0x0403, x := 0xFF, y := 0x01 }), []⟩,
  -- F10 STA $0200,X
  ⟨⟨{ State.reset with a := 0x42, x := 0x01 }, [], [0x9D, 0x00, 0x02]⟩,
    .ok ({ State.reset with pc := 0x0403, a := 0x42, x := 0x01 }), [(0x0201, 0x42)]⟩,
  -- F11 STA $10
  ⟨⟨{ State.reset with n := true }, [], [0x85, 0x10]⟩,
    .ok ({ State.reset with pc := 0x0402, n := true }), [(0x0010, 0x00)]⟩,
  -- F12 STA ($20,X)
  ⟨⟨{ State.reset with a := 0x5A, x := 0x04 }, [(0x0024, 0x74), (0x0025, 0x20)], [0x81, 0x20]⟩,
    .ok ({ State.reset with pc := 0x0402, a := 0x5A, x := 0x04 }), [(0x2074, 0x5A)]⟩,
  -- F13 STA $0200,Y
  ⟨⟨{ State.reset with a := 0x80, y := 0x80 }, [], [0x99, 0x00, 0x02]⟩,
    .ok ({ State.reset with pc := 0x0403, a := 0x80, y := 0x80 }), [(0x0280, 0x80)]⟩,
  -- F14 STX $10
  ⟨⟨{ State.reset with x := 0x07 }, [], [0x86, 0x10]⟩,
    .ok ({ State.reset with pc := 0x0402, x := 0x07 }), [(0x0010, 0x07)]⟩,
  -- F15 STX $F0,Y
  ⟨⟨{ State.reset with x := 0x08, y := 0x20 }, [], [0x96, 0xF0]⟩,
    .ok ({ State.reset with pc := 0x0402, x := 0x08, y := 0x20 }), [(0x0010, 0x08)]⟩,
  -- F16 STX $0300
  ⟨⟨{ State.reset with x := 0xFF }, [], [0x8E, 0x00, 0x03]⟩,
    .ok ({ State.reset with pc := 0x0403, x := 0xFF }), [(0x0300, 0xFF)]⟩,
  -- F17 STY $0300
  ⟨⟨{ State.reset with y := 0x09 }, [], [0x8C, 0x00, 0x03]⟩,
    .ok ({ State.reset with pc := 0x0403, y := 0x09 }), [(0x0300, 0x09)]⟩,
  -- F18 STY $10,X
  ⟨⟨{ State.reset with x := 0xF0, y := 0x0A }, [], [0x94, 0x10]⟩,
    .ok ({ State.reset with pc := 0x0402, x := 0xF0, y := 0x0A }), [(0x0000, 0x0A)]⟩]

theorem test_vectors_2_6_a : vectors_2_6_a.all StepVector.passes = true := by decide

/-- 2.6 Loads, stores, transfers. -/
def vectors_2_6_b : List StepVector := [
  -- F19 STY $10
  ⟨⟨{ State.reset with y := 0x0B }, [], [0x84, 0x10]⟩,
    .ok ({ State.reset with pc := 0x0402, y := 0x0B }), [(0x0010, 0x0B)]⟩,
  -- F20 TAX
  ⟨⟨{ State.reset with a := 0x80 }, [], [0xAA]⟩,
    .ok ({ State.reset with pc := 0x0401, a := 0x80, x := 0x80, n := true }), []⟩,
  -- F21 TAY
  ⟨⟨{ State.reset with y := 0x05 }, [], [0xA8]⟩,
    .ok ({ State.reset with pc := 0x0401, z := true }), []⟩,
  -- F22 TXA
  ⟨⟨{ State.reset with x := 0x7F, n := true }, [], [0x8A]⟩,
    .ok ({ State.reset with pc := 0x0401, a := 0x7F, x := 0x7F }), []⟩,
  -- F23 TYA
  ⟨⟨{ State.reset with y := 0xFF }, [], [0x98]⟩,
    .ok ({ State.reset with pc := 0x0401, a := 0xFF, y := 0xFF, n := true }), []⟩,
  -- F24 TSX
  ⟨⟨{ State.reset with sp := 0xFD }, [], [0xBA]⟩,
    .ok ({ State.reset with pc := 0x0401, sp := 0xFD, x := 0xFD, n := true }), []⟩,
  -- F25 TSX
  ⟨⟨{ State.reset with sp := 0x00, x := 0x01 }, [], [0xBA]⟩,
    .ok ({ State.reset with pc := 0x0401, sp := 0x00, z := true }), []⟩,
  -- F26 TXS
  ⟨⟨{ State.reset with x := 0x80 }, [], [0x9A]⟩,
    .ok ({ State.reset with pc := 0x0401, sp := 0x80, x := 0x80 }), []⟩,
  -- F27 TXS
  ⟨⟨{ State.reset with n := true }, [], [0x9A]⟩,
    .ok ({ State.reset with pc := 0x0401, sp := 0x00, n := true }), []⟩]

theorem test_vectors_2_6_b : vectors_2_6_b.all StepVector.passes = true := by decide

/-- 2.7 Jumps, branches, subroutines. -/
def vectors_2_7_a : List StepVector := [
  -- G1 JMP $1234
  ⟨⟨State.reset, [], [0x4C, 0x34, 0x12]⟩,
    .ok ({ State.reset with pc := 0x1234 }), []⟩,
  -- G2 JMP $0400
  ⟨⟨State.reset, [], [0x4C, 0x00, 0x04]⟩,
    .ok State.reset, []⟩,
  -- G3 BCC +4
  ⟨⟨State.reset, [], [0x90, 0x04]⟩,
    .ok ({ State.reset with pc := 0x0406 }), []⟩,
  -- G4 BCC +4
  ⟨⟨{ State.reset with c := true }, [], [0x90, 0x04]⟩,
    .ok ({ State.reset with pc := 0x0402, c := true }), []⟩,
  -- G5 BCS -2
  ⟨⟨{ State.reset with c := true }, [], [0xB0, 0xFE]⟩,
    .ok ({ State.reset with c := true }), []⟩,
  -- G6 BCS -2
  ⟨⟨State.reset, [], [0xB0, 0xFE]⟩,
    .ok ({ State.reset with pc := 0x0402 }), []⟩,
  -- G7 BEQ +127
  ⟨⟨{ State.reset with z := true }, [], [0xF0, 0x7F]⟩,
    .ok ({ State.reset with pc := 0x0481, z := true }), []⟩,
  -- G8 BEQ +127
  ⟨⟨State.reset, [], [0xF0, 0x7F]⟩,
    .ok ({ State.reset with pc := 0x0402 }), []⟩,
  -- G9 BNE -6
  ⟨⟨{ State.reset with pc := 0x0406 }, [], [0xD0, 0xFA]⟩,
    .ok ({ State.reset with pc := 0x0402 }), []⟩,
  -- G10 BNE -6
  ⟨⟨{ State.reset with pc := 0x0406, z := true }, [], [0xD0, 0xFA]⟩,
    .ok ({ State.reset with pc := 0x0408, z := true }), []⟩,
  -- G11 BMI -128
  ⟨⟨{ State.reset with n := true }, [], [0x30, 0x80]⟩,
    .ok ({ State.reset with pc := 0x0382, n := true }), []⟩,
  -- G12 BMI -128
  ⟨⟨State.reset, [], [0x30, 0x80]⟩,
    .ok ({ State.reset with pc := 0x0402 }), []⟩,
  -- G13 BPL +0
  ⟨⟨State.reset, [], [0x10, 0x00]⟩,
    .ok ({ State.reset with pc := 0x0402 }), []⟩,
  -- G14 BPL +16
  ⟨⟨{ State.reset with n := true }, [], [0x10, 0x10]⟩,
    .ok ({ State.reset with pc := 0x0402, n := true }), []⟩,
  -- G15 BVC +32
  ⟨⟨{ State.reset with pc := 0xFFF0 }, [], [0x50, 0x20]⟩,
    .ok ({ State.reset with pc := 0x0012 }), []⟩,
  -- G16 BVC +32
  ⟨⟨{ State.reset with pc := 0xFFF0, v := true }, [], [0x50, 0x20]⟩,
    .ok ({ State.reset with pc := 0xFFF2, v := true }), []⟩,
  -- G17 BVS -128
  ⟨⟨{ State.reset with pc := 0x0000, v := true }, [], [0x70, 0x80]⟩,
    .ok ({ State.reset with pc := 0xFF82, v := true }), []⟩,
  -- G18 BVS -128
  ⟨⟨{ State.reset with pc := 0x0000 }, [], [0x70, 0x80]⟩,
    .ok ({ State.reset with pc := 0x0002 }), []⟩]

theorem test_vectors_2_7_a : vectors_2_7_a.all StepVector.passes = true := by decide

/-- 2.7 Jumps, branches, subroutines. -/
def vectors_2_7_b : List StepVector := [
  -- G19 BNE -1
  ⟨⟨State.reset, [], [0xD0, 0xFF]⟩,
    .ok ({ State.reset with pc := 0x0401 }), []⟩,
  -- G20 JSR $0405
  ⟨⟨State.reset, [], [0x20, 0x05, 0x04]⟩,
    .ok ({ State.reset with pc := 0x0405, sp := 0xFD }), [(0x01FE, 0x03), (0x01FF, 0x04)]⟩,
  -- G21 JSR $1234
  ⟨⟨{ State.reset with pc := 0x0600, sp := 0x00 }, [], [0x20, 0x34, 0x12]⟩,
    .ok ({ State.reset with pc := 0x1234, sp := 0xFE }), [(0x0100, 0x06), (0x01FF, 0x03)]⟩,
  -- G22 JSR $0000
  ⟨⟨{ State.reset with pc := 0xFFFD }, [], [0x20, 0x00, 0x00]⟩,
    .ok ({ State.reset with pc := 0x0000, sp := 0xFD }), [(0x01FF, 0x00), (0x01FE, 0x00)]⟩,
  -- G23 JSR $01FE
  ⟨⟨{ State.reset with pc := 0x01FD }, [], [0x20, 0xFE, 0x01]⟩,
    .ok ({ State.reset with pc := 0x01FE, sp := 0xFD }), [(0x01FE, 0x00), (0x01FF, 0x02)]⟩,
  -- G24 RTS
  ⟨⟨{ State.reset with pc := 0x0405, sp := 0xFD }, [(0x01FE, 0x03), (0x01FF, 0x04)], [0x60]⟩,
    .ok ({ State.reset with pc := 0x0403 }), []⟩,
  -- G25 RTS
  ⟨⟨State.reset, [(0x0100, 0x78), (0x0101, 0x56)], [0x60]⟩,
    .ok ({ State.reset with pc := 0x5678, sp := 0x01 }), []⟩,
  -- G26 RTS
  ⟨⟨{ State.reset with sp := 0xFE }, [(0x0100, 0xAB), (0x01FF, 0xCD)], [0x60]⟩,
    .ok ({ State.reset with pc := 0xABCD, sp := 0x00 }), []⟩]

theorem test_vectors_2_7_b : vectors_2_7_b.all StepVector.passes = true := by decide

/-- 2.8 Stack, flag and no-operation instructions. -/
def vectors_2_8_a : List StepVector := [
  -- H1 PHA
  ⟨⟨{ State.reset with a := 0x42 }, [], [0x48]⟩,
    .ok ({ State.reset with pc := 0x0401, sp := 0xFE, a := 0x42 }), [(0x01FF, 0x42)]⟩,
  -- H2 PHA
  ⟨⟨{ State.reset with sp := 0x00, n := true }, [], [0x48]⟩,
    .ok ({ State.reset with pc := 0x0401, n := true }), [(0x0100, 0x00)]⟩,
  -- H3 PHP
  ⟨⟨{ State.reset with n := true, c := true }, [], [0x08]⟩,
    .ok ({ State.reset with pc := 0x0401, sp := 0xFE, n := true, c := true }), [(0x01FF, 0xB1)]⟩,
  -- H4 PHP
  ⟨⟨State.reset, [], [0x08]⟩,
    .ok ({ State.reset with pc := 0x0401, sp := 0xFE }), [(0x01FF, 0x30)]⟩,
  -- H5 PHP
  ⟨⟨{ State.reset with n := true, v := true, b := true, d := true, i := true, z := true, c := true }, [], [0x08]⟩,
    .ok ({ State.reset with pc := 0x0401, sp := 0xFE, n := true, v := true, b := true, d := true, i := true, z := true, c := true }), [(0x01FF, 0xFF)]⟩,
  -- H6 PHP
  ⟨⟨{ State.reset with d := true }, [], [0x08]⟩,
    .ok ({ State.reset with pc := 0x0401, sp := 0xFE, d := true }), [(0x01FF, 0x38)]⟩,
  -- H7 PLA
  ⟨⟨{ State.reset with sp := 0xFE }, [(0x01FF, 0x80)], [0x68]⟩,
    .ok ({ State.reset with pc := 0x0401, a := 0x80, n := true }), []⟩,
  -- H8 PLA
  ⟨⟨{ State.reset with a := 0x11 }, [(0x0100, 0x00)], [0x68]⟩,
    .ok ({ State.reset with pc := 0x0401, sp := 0x00, z := true }), []⟩,
  -- H9 PLP
  ⟨⟨{ State.reset with sp := 0xFE }, [(0x01FF, 0xC3)], [0x28]⟩,
    .ok ({ State.reset with pc := 0x0401, n := true, v := true, z := true, c := true }), []⟩,
  -- H10 PLP
  ⟨⟨{ State.reset with sp := 0xFE }, [(0x01FF, 0xFF)], [0x28]⟩,
    .ok ({ State.reset with pc := 0x0401, n := true, v := true, b := true, d := true, i := true, z := true, c := true }), []⟩,
  -- H11 PLP
  ⟨⟨{ State.reset with sp := 0xFE, n := true, v := true, b := true, d := true, i := true, z := true, c := true }, [(0x01FF, 0x00)], [0x28]⟩,
    .ok ({ State.reset with pc := 0x0401 }), []⟩,
  -- H12 PLP
  ⟨⟨{ State.reset with sp := 0xFE }, [(0x01FF, 0x20)], [0x28]⟩,
    .ok ({ State.reset with pc := 0x0401 }), []⟩,
  -- H13 PLP
  ⟨⟨{ State.reset with sp := 0xFE }, [(0x01FF, 0x10)], [0x28]⟩,
    .ok ({ State.reset with pc := 0x0401, b := true }), []⟩,
  -- H14 CLC
  ⟨⟨{ State.reset with c := true }, [], [0x18]⟩,
    .ok ({ State.reset with pc := 0x0401 }), []⟩,
  -- H15 SEC
  ⟨⟨State.reset, [], [0x38]⟩,
    .ok ({ State.reset with pc := 0x0401, c := true }), []⟩,
  -- H16 CLI
  ⟨⟨{ State.reset with i := true }, [], [0x58]⟩,
    .ok ({ State.reset with pc := 0x0401 }), []⟩,
  -- H17 SEI
  ⟨⟨State.reset, [], [0x78]⟩,
    .ok ({ State.reset with pc := 0x0401, i := true }), []⟩,
  -- H18 CLV
  ⟨⟨{ State.reset with v := true }, [], [0xB8]⟩,
    .ok ({ State.reset with pc := 0x0401 }), []⟩]

theorem test_vectors_2_8_a : vectors_2_8_a.all StepVector.passes = true := by decide

/-- 2.8 Stack, flag and no-operation instructions. -/
def vectors_2_8_b : List StepVector := [
  -- H19 CLD
  ⟨⟨{ State.reset with d := true }, [], [0xD8]⟩,
    .ok ({ State.reset with pc := 0x0401 }), []⟩,
  -- H20 SED
  ⟨⟨State.reset, [], [0xF8]⟩,
    .ok ({ State.reset with pc := 0x0401, d := true }), []⟩,
  -- H21 NOP
  ⟨⟨{ State.reset with a := 0x01, n := true, c := true }, [], [0xEA]⟩,
    .ok ({ State.reset with pc := 0x0401, a := 0x01, n := true, c := true }), []⟩]

theorem test_vectors_2_8_b : vectors_2_8_b.all StepVector.passes = true := by decide

/-- 2.9 Halting. -/
def vectors_2_9 : List StepVector := [
  -- I1 BRK
  ⟨⟨State.reset, [], [0x00]⟩,
    .brk, []⟩,
  -- I2 BRK
  ⟨⟨{ State.reset with sp := 0x80, a := 0x12, c := true }, [], [0x00, 0xFF]⟩,
    .brk, []⟩,
  -- I3 BRK (at 0xFFFF)
  ⟨⟨{ State.reset with pc := 0xFFFF }, [], [0x00]⟩,
    .brk, []⟩,
  -- I4 (0x02)
  ⟨⟨State.reset, [], [0x02]⟩,
    .illegal 0x02, []⟩,
  -- I5 (0x40, RTI on a real 6502)
  ⟨⟨{ State.reset with sp := 0xFC }, [(0x01FD, 0x00), (0x01FE, 0x10), (0x01FF, 0x20)], [0x40]⟩,
    .illegal 0x40, []⟩,
  -- I6 (0xFF)
  ⟨⟨State.reset, [], [0xFF, 0x12, 0x34]⟩,
    .illegal 0xFF, []⟩,
  -- I7 (0x80)
  ⟨⟨{ State.reset with pc := 0x0000 }, [], [0x80]⟩,
    .illegal 0x80, []⟩,
  -- I8 (0xEB)
  ⟨⟨{ State.reset with a := 0x05, c := true }, [], [0xEB, 0x01]⟩,
    .illegal 0xEB, []⟩,
  -- I9 (0x1A)
  ⟨⟨{ State.reset with a := 0x05 }, [], [0x1A]⟩,
    .illegal 0x1A, []⟩]

theorem test_vectors_2_9 : vectors_2_9.all StepVector.passes = true := by decide

/-! ### The accesses of a step, in order (20_memory.md R46) -/

/-- 2.1, the access column. -/
def accesses_2_1 : List (Start × List Access) := [
  -- A1
  (⟨{ State.reset with x := 0x01 }, [], [0xE8]⟩,
    [.read 0x0400]),
  -- A2
  (⟨{ State.reset with a := 0x81 }, [], [0x0A]⟩,
    [.read 0x0400]),
  -- A3
  (⟨State.reset, [], [0xA9, 0x80]⟩,
    [.read 0x0400, .read 0x0401]),
  -- A4
  (⟨State.reset, [(0x0010, 0x55)], [0xA5, 0x10]⟩,
    [.read 0x0400, .read 0x0401, .read 0x0010]),
  -- A5
  (⟨{ State.reset with x := 0x20 }, [(0x0010, 0x77), (0x0110, 0x99)], [0xB5, 0xF0]⟩,
    [.read 0x0400, .read 0x0401, .read 0x0010]),
  -- A6
  (⟨{ State.reset with y := 0x02 }, [(0x0001, 0x66), (0x0101, 0x99)], [0xB6, 0xFF]⟩,
    [.read 0x0400, .read 0x0401, .read 0x0001]),
  -- A7
  (⟨State.reset, [(0x1234, 0x5A)], [0xAD, 0x34, 0x12]⟩,
    [.read 0x0400, .read 0x0401, .read 0x0402, .read 0x1234]),
  -- A8
  (⟨{ State.reset with x := 0x20 }, [(0x1310, 0x33)], [0xBD, 0xF0, 0x12]⟩,
    [.read 0x0400, .read 0x0401, .read 0x0402, .read 0x1310]),
  -- A9
  (⟨{ State.reset with x := 0x02 }, [(0x0001, 0x44)], [0xBD, 0xFF, 0xFF]⟩,
    [.read 0x0400, .read 0x0401, .read 0x0402, .read 0x0001]),
  -- A10
  (⟨{ State.reset with y := 0x01 }, [(0x0000, 0x45)], [0xB9, 0xFF, 0xFF]⟩,
    [.read 0x0400, .read 0x0401, .read 0x0402, .read 0x0000]),
  -- A11
  (⟨{ State.reset with x := 0x04 }, [(0x0024, 0x74), (0x0025, 0x20), (0x2074, 0xAB)], [0xA1, 0x20]⟩,
    [.read 0x0400, .read 0x0401, .read 0x0024, .read 0x0025, .read 0x2074]),
  -- A12
  (⟨{ State.reset with x := 0x20 }, [(0x0010, 0x00), (0x0011, 0x30), (0x3000, 0x12)], [0xA1, 0xF0]⟩,
    [.read 0x0400, .read 0x0401, .read 0x0010, .read 0x0011, .read 0x3000]),
  -- A13
  (⟨{ State.reset with x := 0x01 }, [(0x0000, 0x12), (0x00FF, 0x34), (0x0100, 0x56), (0x1234, 0xC1), (0x5634, 0xC2)], [0xA1, 0xFE]⟩,
    [.read 0x0400, .read 0x0401, .read 0x00FF, .read 0x0000, .read 0x1234]),
  -- A14
  (⟨{ State.reset with y := 0x10 }, [(0x0086, 0x28), (0x0087, 0x40), (0x4038, 0x99)], [0xB1, 0x86]⟩,
    [.read 0x0400, .read 0x0401, .read 0x0086, .read 0x0087, .read 0x4038]),
  -- A15
  (⟨{ State.reset with y := 0x01 }, [(0x0000, 0x12), (0x00FF, 0x34), (0x0100, 0x56), (0x1235, 0xD1), (0x5635, 0xD2)], [0xB1, 0xFF]⟩,
    [.read 0x0400, .read 0x0401, .read 0x00FF, .read 0x0000, .read 0x1235]),
  -- A16
  (⟨{ State.reset with y := 0x02 }, [(0x0001, 0x7E), (0x0040, 0xFF), (0x0041, 0xFF)], [0xB1, 0x40]⟩,
    [.read 0x0400, .read 0x0401, .read 0x0040, .read 0x0041, .read 0x0001]),
  -- A17
  (⟨{ State.reset with a := 0xEE, y := 0xFF }, [(0x0040, 0x80), (0x0041, 0x20)], [0x91, 0x40]⟩,
    [.read 0x0400, .read 0x0401, .read 0x0040, .read 0x0041, .write 0x217F]),
  -- A18
  (⟨State.reset, [(0x0300, 0x34), (0x0301, 0x12)], [0x6C, 0x00, 0x03]⟩,
    [.read 0x0400, .read 0x0401, .read 0x0402, .read 0x0300, .read 0x0301]),
  -- A19
  (⟨State.reset, [(0x0200, 0x05), (0x02FF, 0x00), (0x0300, 0x06)], [0x6C, 0xFF, 0x02]⟩,
    [.read 0x0400, .read 0x0401, .read 0x0402, .read 0x02FF, .read 0x0200]),
  -- A20
  (⟨State.reset, [(0x0000, 0x65), (0xFF00, 0x43), (0xFFFF, 0x21)], [0x6C, 0xFF, 0xFF]⟩,
    [.read 0x0400, .read 0x0401, .read 0x0402, .read 0xFFFF, .read 0xFF00]),
  -- A21
  (⟨{ State.reset with pc := 0xFFFF }, [], [0xA9, 0x7F]⟩,
    [.read 0xFFFF, .read 0x0000]),
  -- A22
  (⟨{ State.reset with pc := 0xFFFE }, [(0x0300, 0x81)], [0xAD, 0x00, 0x03]⟩,
    [.read 0xFFFE, .read 0xFFFF, .read 0x0000, .read 0x0300])]

theorem test_accesses_2_1 :
    accesses_2_1.all (fun t => decide (stepAccesses t.1.state = t.2)) = true := by decide

/-- 2.7, the access column. -/
def accesses_2_7 : List (Start × List Access) := [
  -- G1
  (⟨State.reset, [], [0x4C, 0x34, 0x12]⟩,
    [.read 0x0400, .read 0x0401, .read 0x0402]),
  -- G2
  (⟨State.reset, [], [0x4C, 0x00, 0x04]⟩,
    [.read 0x0400, .read 0x0401, .read 0x0402]),
  -- G3
  (⟨State.reset, [], [0x90, 0x04]⟩,
    [.read 0x0400, .read 0x0401]),
  -- G4
  (⟨{ State.reset with c := true }, [], [0x90, 0x04]⟩,
    [.read 0x0400, .read 0x0401]),
  -- G5
  (⟨{ State.reset with c := true }, [], [0xB0, 0xFE]⟩,
    [.read 0x0400, .read 0x0401]),
  -- G6
  (⟨State.reset, [], [0xB0, 0xFE]⟩,
    [.read 0x0400, .read 0x0401]),
  -- G7
  (⟨{ State.reset with z := true }, [], [0xF0, 0x7F]⟩,
    [.read 0x0400, .read 0x0401]),
  -- G8
  (⟨State.reset, [], [0xF0, 0x7F]⟩,
    [.read 0x0400, .read 0x0401]),
  -- G9
  (⟨{ State.reset with pc := 0x0406 }, [], [0xD0, 0xFA]⟩,
    [.read 0x0406, .read 0x0407]),
  -- G10
  (⟨{ State.reset with pc := 0x0406, z := true }, [], [0xD0, 0xFA]⟩,
    [.read 0x0406, .read 0x0407]),
  -- G11
  (⟨{ State.reset with n := true }, [], [0x30, 0x80]⟩,
    [.read 0x0400, .read 0x0401]),
  -- G12
  (⟨State.reset, [], [0x30, 0x80]⟩,
    [.read 0x0400, .read 0x0401]),
  -- G13
  (⟨State.reset, [], [0x10, 0x00]⟩,
    [.read 0x0400, .read 0x0401]),
  -- G14
  (⟨{ State.reset with n := true }, [], [0x10, 0x10]⟩,
    [.read 0x0400, .read 0x0401]),
  -- G15
  (⟨{ State.reset with pc := 0xFFF0 }, [], [0x50, 0x20]⟩,
    [.read 0xFFF0, .read 0xFFF1]),
  -- G16
  (⟨{ State.reset with pc := 0xFFF0, v := true }, [], [0x50, 0x20]⟩,
    [.read 0xFFF0, .read 0xFFF1]),
  -- G17
  (⟨{ State.reset with pc := 0x0000, v := true }, [], [0x70, 0x80]⟩,
    [.read 0x0000, .read 0x0001]),
  -- G18
  (⟨{ State.reset with pc := 0x0000 }, [], [0x70, 0x80]⟩,
    [.read 0x0000, .read 0x0001]),
  -- G19
  (⟨State.reset, [], [0xD0, 0xFF]⟩,
    [.read 0x0400, .read 0x0401]),
  -- G20
  (⟨State.reset, [], [0x20, 0x05, 0x04]⟩,
    [.read 0x0400, .read 0x0401, .read 0x0402, .write 0x01FF, .write 0x01FE]),
  -- G21
  (⟨{ State.reset with pc := 0x0600, sp := 0x00 }, [], [0x20, 0x34, 0x12]⟩,
    [.read 0x0600, .read 0x0601, .read 0x0602, .write 0x0100, .write 0x01FF]),
  -- G22
  (⟨{ State.reset with pc := 0xFFFD }, [], [0x20, 0x00, 0x00]⟩,
    [.read 0xFFFD, .read 0xFFFE, .read 0xFFFF, .write 0x01FF, .write 0x01FE]),
  -- G23
  (⟨{ State.reset with pc := 0x01FD }, [], [0x20, 0xFE, 0x01]⟩,
    [.read 0x01FD, .read 0x01FE, .read 0x01FF, .write 0x01FF, .write 0x01FE]),
  -- G24
  (⟨{ State.reset with pc := 0x0405, sp := 0xFD }, [(0x01FE, 0x03), (0x01FF, 0x04)], [0x60]⟩,
    [.read 0x0405, .read 0x01FE, .read 0x01FF]),
  -- G25
  (⟨State.reset, [(0x0100, 0x78), (0x0101, 0x56)], [0x60]⟩,
    [.read 0x0400, .read 0x0100, .read 0x0101]),
  -- G26
  (⟨{ State.reset with sp := 0xFE }, [(0x0100, 0xAB), (0x01FF, 0xCD)], [0x60]⟩,
    [.read 0x0400, .read 0x01FF, .read 0x0100])]

theorem test_accesses_2_7 :
    accesses_2_7.all (fun t => decide (stepAccesses t.1.state = t.2)) = true := by decide

/-- 2.9, the access column. -/
def accesses_2_9 : List (Start × List Access) := [
  -- I1
  (⟨State.reset, [], [0x00]⟩,
    [.read 0x0400]),
  -- I2
  (⟨{ State.reset with sp := 0x80, a := 0x12, c := true }, [], [0x00, 0xFF]⟩,
    [.read 0x0400]),
  -- I3
  (⟨{ State.reset with pc := 0xFFFF }, [], [0x00]⟩,
    [.read 0xFFFF]),
  -- I4
  (⟨State.reset, [], [0x02]⟩,
    [.read 0x0400]),
  -- I5
  (⟨{ State.reset with sp := 0xFC }, [(0x01FD, 0x00), (0x01FE, 0x10), (0x01FF, 0x20)], [0x40]⟩,
    [.read 0x0400]),
  -- I6
  (⟨State.reset, [], [0xFF, 0x12, 0x34]⟩,
    [.read 0x0400]),
  -- I7
  (⟨{ State.reset with pc := 0x0000 }, [], [0x80]⟩,
    [.read 0x0000]),
  -- I8
  (⟨{ State.reset with a := 0x05, c := true }, [], [0xEB, 0x01]⟩,
    [.read 0x0400]),
  -- I9
  (⟨{ State.reset with a := 0x05 }, [], [0x1A]⟩,
    [.read 0x0400])]

theorem test_accesses_2_9 :
    accesses_2_9.all (fun t => decide (stepAccesses t.1.state = t.2)) = true := by decide

/-! ### Witnesses for the statements' hypotheses -/

/-- Registers at boundary values, and bytes at the edges of page zero, of the stack page and of the address space. -/
def edge : State :=
  Start.state
    ⟨{ State.reset with pc := 0xFFFE, sp := 0x00, a := 0x80, x := 0xFF, y := 0x01, n := true, b := true, c := true },
      [(0x0000, 0x7F), (0x0001, 0xFF), (0x00FF, 0xFE), (0x0100, 0x12), (0x0101, 0x34), (0x01FF, 0x56)], []⟩

/-- The bytes of one instruction at PC of `edge`, moved to 0x0400. -/
def edgeAt (code : List Byte) : State :=
  State.memWriteBytes { edge with pc := 0x0400 } 0x0400 code

/-- The state after one step that is Ok; the state itself after any other. -/
def after (s : State) : State :=
  match step s with
  | .next t => t
  | _ => s

theorem witness_EncodeOfDecode : decodeBytes [0x29, 0x3C, 0x99] = .ok (.andImm 0x3C, [0x99]) := rfl

theorem witness_MemoryPort : (0x0000 : Word) ≠ 0xFFFF := by decide

theorem witness_CanonicalMemories :
    Memory.wf [(0, 0x01), (65535, 0xFF)] ∧ (edge.memWrite 0x8000 0x01).memWrite 0x8000 0x00 = edge ∧
      Memory.wf edge.mem := by decide

theorem witness_Words : (0x0001 : Word) ≠ 0xFFFF ∧ (0x0001 : Word) ≠ 0xFFFF + 1 := by decide

theorem witness_PushedWord :
    (0x01FE : Word) ≠ stackAddr edge.sp ∧ (0x01FE : Word) ≠ stackAddr (edge.sp - 1) := by decide

theorem witness_StackPointerWraps : edge.sp = 0x00 ∧ State.reset.sp = 0xFF := by decide

theorem witness_StepKeepsMemory :
    Inv (edgeAt [0x85, 0xFF]) ∧ step (edgeAt [0x85, 0xFF]) = .next (after (edgeAt [0x85, 0xFF])) ∧
      (after (edgeAt [0x85, 0xFF])).memRead 0x00FF = 0x80 := by
  (repeat' apply And.intro) <;> first | rfl | decide

theorem witness_HostOperations :
    Inv edge ∧ hostAct (.load ⟨0xFFFE, [0x00, 0x01]⟩) edge = .next (edge.memWrite 0xFFFF 0x01) ∧
      hostAct (.run 0) edge = .next edge ∧ hostAct .reset edge = .next (hostReset edge) ∧
      hostAct .step (edgeAt [0xEA]) = .next { edgeAt [0xEA] with pc := 0x0401 } ∧
      hostAct (.writeByte 0x00FF 0x00) edge = .next (edge.memWrite 0x00FF 0x00) := by
  (repeat' apply And.intro) <;> first | rfl | decide

/-- R235: power-on with the chip's own start address, and with nothing supplied. -/
theorem test_power_on_with_and_without_reset_pc :
    hostAct (.powerOn (some 0xFFFC)) edge = .next { State.reset with pc := 0xFFFC } ∧
      hostAct (.powerOn none) edge = .next State.reset :=
  ⟨rfl, rfl⟩

theorem witness_ReadOperand :
    (Instr.ldaImm 0xFF).mode = .imm ∧ effectiveAddress (.ldaZp 0xFF) edge = some 0x00FF ∧
      Instr.inx.mode ∈ [Mode.imp, .acc] ∧ Instr.rorAcc.mode ∈ [Mode.imp, .acc] := by decide

theorem witness_DirectForms :
    ((Instr.ldaZp 0xFF).mode = .zp ∧ effectiveAddress (.ldaZp 0xFF) edge = some 0x00FF) ∧
      ((Instr.ldaZpx 0x02).mode = .zpx ∧ effectiveAddress (.ldaZpx 0x02) edge = some 0x0001) ∧
      ((Instr.ldxZpy 0xFF).mode = .zpy ∧ effectiveAddress (.ldxZpy 0xFF) edge = some 0x0000) ∧
      ((Instr.ldaAbs 0xFFFF).mode = .abs ∧ effectiveAddress (.ldaAbs 0xFFFF) edge = some 0xFFFF) ∧
      ((Instr.ldaAbsx 0xFFFF).mode = .absx ∧ effectiveAddress (.ldaAbsx 0xFFFF) edge = some 0x00FE) ∧
      ((Instr.ldaAbsy 0xFFFF).mode = .absy ∧ effectiveAddress (.ldaAbsy 0xFFFF) edge = some 0x0000) := by decide

theorem witness_PointerForms :
    ((Instr.ldaIndx 0x00).mode = .indx ∧ effectiveAddress (.ldaIndx 0x00) edge = some 0x7FFE) ∧
      ((Instr.ldaIndy 0xFF).mode = .indy ∧ effectiveAddress (.ldaIndy 0xFF) edge = some 0x7FFF) := by decide

theorem witness_JumpIndirect :
    jmpIndTarget 0x01FF edge = 0x1256 ∧ jmpIndTarget 0x0100 edge = 0x3412 := by decide

theorem witness_RelativeTarget :
    fetchInstr (edgeAt [0xD0, 0x80]) = .ok (.bne 0x80, { edgeAt [0xD0, 0x80] with pc := 0x0402 }) ∧
      (Instr.bne 0x80).mode = .rel ∧ relTarget 0x0002 0x80 = 0xFF82 ∧ relTarget 0xFFF2 0x20 = 0x0012 := by
  (repeat' apply And.intro) <;> rfl

theorem witness_Logic :
    (Instr.andImm 0xFF).op = .and ∧ (Instr.eorIndx 0xFF).op = .eor ∧ (Instr.oraAbsy 0xFFFF).op = .ora := by decide

theorem witness_Bit : (Instr.bitZp 0xFF).op = .bit ∧ (Instr.bitAbs 0x0000).op = .bit := by decide

theorem witness_Compare :
    ((Instr.cmpIndy 0xFF).op, edge.a) ∈ [(Op.cmp, edge.a), (.cpx, edge.x), (.cpy, edge.y)] ∧
      ((Instr.cpxImm 0xFF).op, edge.x) ∈ [(Op.cmp, edge.a), (.cpx, edge.x), (.cpy, edge.y)] ∧
      ((Instr.cpyAbs 0xFFFF).op, edge.y) ∈ [(Op.cmp, edge.a), (.cpx, edge.x), (.cpy, edge.y)] := by decide

theorem witness_Adc : (Instr.adcImm 0x80).op = .adc ∧ (Instr.adcIndx 0xFF).op = .adc := by decide

theorem witness_Sbc : (Instr.sbcImm 0x00).op = .sbc ∧ (Instr.sbcAbsx 0xFFFF).op = .sbc := by decide

theorem witness_IncDec :
    ((Instr.incZpx 0x00).op, (1 : Int)) ∈ [(Op.inc, (1 : Int)), (.dec, -1)] ∧
      ((Instr.decAbs 0xFFFF).op, (-1 : Int)) ∈ [(Op.inc, (1 : Int)), (.dec, -1)] := by decide

theorem witness_ShiftsOfTheAccumulator :
    Instr.aslAcc.mode = .acc ∧ Instr.lsrAcc.mode = .acc ∧ Instr.rolAcc.mode = .acc ∧ Instr.rorAcc.mode = .acc := by
  decide

theorem witness_ShiftsOfMemory :
    ((Instr.aslZp 0xFF).op ∈ [Op.asl, .lsr, .rol, .ror] ∧ (Instr.aslZp 0xFF).mode ≠ .acc) ∧
      ((Instr.rorAbsx 0xFFFF).op ∈ [Op.asl, .lsr, .rol, .ror] ∧ (Instr.rorAbsx 0xFFFF).mode ≠ .acc) := by decide

theorem witness_Loads :
    (Instr.ldaIndy 0xFF).op = .lda ∧ (Instr.ldxZpy 0xFF).op = .ldx ∧ (Instr.ldyAbsx 0xFFFF).op = .ldy := by decide

theorem witness_Stores :
    ((Instr.staIndx 0x00).op, edge.a) ∈ [(Op.sta, edge.a), (.stx, edge.x), (.sty, edge.y)] ∧
      ((Instr.stxZpy 0xFF).op, edge.x) ∈ [(Op.sta, edge.a), (.stx, edge.x), (.sty, edge.y)] ∧
      ((Instr.styAbs 0xFFFF).op, edge.y) ∈ [(Op.sta, edge.a), (.stx, edge.x), (.sty, edge.y)] := by decide

theorem witness_Branches :
    (Instr.bcc 0x7F).mode = .rel ∧ branchTaken .bcc edge = some false ∧ (Instr.bcs 0x80).mode = .rel ∧
      branchTaken .bcs edge = some true := by decide

theorem witness_Jsr : (0x01FE : Word) ≠ stackAddr edge.sp ∧ (0x01FE : Word) ≠ stackAddr (edge.sp - 1) := by decide

theorem witness_RtsUndoesJsr :
    let s := { edgeAt [0x20, 0x00, 0x80] with pc := 0x0403 }
    let t := after (edgeAt [0x20, 0x00, 0x80])
    let u := { t with a := 0x00, c := false, pc := 0x9000 }
    exec (.jsr 0x8000) s = .next t ∧ u.sp = t.sp ∧ u.mem = t.mem ∧ t.sp = 0xFE := by
  (repeat' apply And.intro) <;> rfl

theorem witness_Pushes :
    (Instr.pha, edge.a) ∈ [(Instr.pha, edge.a), (.php, BitVec.ofNat 8 (128 * edge.n.toNat + 64 * edge.v.toNat + 32 + 16 +
      8 * edge.d.toNat + 4 * edge.i.toNat + 2 * edge.z.toNat + edge.c.toNat))] ∧
      (Instr.php, 0xB1) ∈ [(Instr.pha, edge.a), (.php, BitVec.ofNat 8 (128 * edge.n.toNat + 64 * edge.v.toNat + 32 +
        16 + 8 * edge.d.toNat + 4 * edge.i.toNat + 2 * edge.z.toNat + edge.c.toNat))] := by decide

theorem witness_PlpUndoesPhp : exec .php edge = .next { edge.memWrite 0x0100 0xB1 with sp := 0xFF } := rfl

theorem witness_BrkStops : (edgeAt [0x00]).memRead (edgeAt [0x00]).pc = 0x00 := by decide

theorem witness_FormsThatStoreNothing :
    let stores : List Op := [.sta, .stx, .sty, .pha, .php, .jsr]
    (Instr.tax.op ∉ stores ∧ Instr.tax.op ∉ modifyingOps ∧
        exec .tax edge = .next { edge with x := 0x80, n := true, z := false }) ∧
      Instr.aslAcc.op ∉ stores ∧ Instr.aslAcc.op ∈ modifyingOps ∧ Instr.aslAcc.mode = .acc ∧
        exec .aslAcc edge = .next { edge with a := 0x00, n := false, z := true, c := true } := by
  (repeat' apply And.intro) <;> first | rfl | decide

theorem witness_StoringForms :
    (exec (.staZp 0xFF) edge = .next (edge.memWrite 0x00FF 0x80) ∧ (Instr.staZp 0xFF).op ∈ [Op.sta, .stx, .sty] ++ modifyingOps ∧
        effectiveAddress (.staZp 0xFF) edge = some 0x00FF) ∧
      (exec (.incZp 0xFF) edge = .next { edge.memWrite 0x00FF 0xFF with n := true, z := false } ∧
        (Instr.incZp 0xFF).op ∈ [Op.sta, .stx, .sty] ++ modifyingOps) ∧
      (exec .pha edge = .next { edge.memWrite 0x0100 0x80 with sp := 0xFF } ∧ Instr.pha.op ∈ [Op.pha, .php]) ∧
      (exec (.jsr 0x0000) edge =
          .next { (edge.memWrite 0x0100 0xFF).memWrite 0x01FF 0xFE with sp := 0xFE, pc := 0x0000 } ∧
        (Instr.jsr 0x0000).op = .jsr) := by
  (repeat' apply And.intro) <;> first | rfl | decide

theorem witness_RegistersKept :
    exec .nop edge = .next edge ∧ Instr.nop.op ∉ writersA ∧ Instr.nop.mode ≠ .acc ∧
      Instr.nop.op ∉ [Op.ldx, .tax, .tsx, .inx, .dex] ∧ Instr.nop.op ∉ [Op.ldy, .tay, .iny, .dey] := by
  (repeat' apply And.intro) <;> first | rfl | decide

theorem witness_FlagsKept :
    exec .txs edge = .next { edge with sp := 0xFF } ∧ Instr.txs.op ∉ writersN ∧
      Instr.txs.op ∉ [Op.adc, .sbc, .bit, .clv, .plp] ∧ Instr.txs.op ≠ .plp ∧
      Instr.txs.op ∉ [Op.sed, .cld, .plp] ∧ Instr.txs.op ∉ [Op.sei, .cli, .plp] ∧ Instr.txs.op ∉ writersC := by
  (repeat' apply And.intro) <;> first | rfl | decide

/-- Also for the statement on the sequencing of PC: a step that is Ok, and one that halts. -/
theorem witness_Sequencing :
    fetchInstr (edgeAt [0x60]) = .ok (.rts, { edgeAt [0x60] with pc := 0x0401 }) ∧
      step (edgeAt [0x60]) = .next (after (edgeAt [0x60])) ∧ (after (edgeAt [0x60])).sp = 0x02 ∧
      step (edgeAt [0x00]) = .fault (.brk (edgeAt [0x00])) := by
  (repeat' apply And.intro) <;> rfl

theorem witness_StepRunsTheDecodedInstruction :
    let s := edgeAt [0xAD, 0xFF, 0xFF]
    decodeBytes [s.memRead s.pc, s.memRead (s.pc + 1), s.memRead (s.pc + 2)] = .ok (.ldaAbs 0xFFFF, []) := rfl

theorem witness_Halting :
    step (edgeAt [0x00]) = .fault (.brk (edgeAt [0x00])) ∧
      step (edgeAt [0x40]) = .fault (.illegalOpcode 0x40 (edgeAt [0x40])) := by
  (repeat' apply And.intro) <;> rfl

theorem witness_OpcodeByteDecides :
    (edgeAt [0x00]).memRead 0x0400 = 0x00 ∧ (edgeAt [0x02]).memRead 0x0400 ∈ unassignedOpcodes ∧
      (edgeAt [0xFF]).memRead 0x0400 ∈ unassignedOpcodes ∧ (edgeAt [0x01]).memRead 0x0400 ≠ 0x00 ∧
      (edgeAt [0x01]).memRead 0x0400 ∉ unassignedOpcodes ∧ unassignedOpcodes.length = 106 := by decide

theorem witness_InstructionBytesWrap :
    ((edge.memWrite 0xFFFE 0xAD).pc = 0xFFFE ∧ decodeOpcode ((edge.memWrite 0xFFFE 0xAD).memRead 0xFFFE) = some (.op2 .ldaAbs)) ∧
      decodeOpcode (State.memRead { edge.memWrite 0xFFFF 0x4C with pc := 0xFFFF } 0xFFFF) = some (.op2 .jmpAbs) :=
  ⟨⟨by decide, rfl⟩, rfl⟩

theorem witness_Fetch :
    fetchInstr (edgeAt [0xA9, 0xFF]) = .ok (.ldaImm 0xFF, { edgeAt [0xA9, 0xFF] with pc := 0x0402 }) ∧
      fetchInstr (edgeAt [0xFF]) = .error (0xFF, { edgeAt [0xFF] with pc := 0x0401 }) := by
  (repeat' apply And.intro) <;> rfl

/-- A memory that differs from that of `edgeAt [0x85, 0xFF]` in the byte which that step writes. -/
def edgeOther : Memory :=
  ((edgeAt [0x85, 0xFF]).memWrite 0x00FF 0x99).mem

theorem witness_StepDepends :
    (edgeOther.readCell 0x0400 = 0x85 ∧ (edgeAt [0x85, 0xFF]).memRead 0x0400 = 0x85) ∧
      (edgeOther.readCell 0x0401 = 0xFF ∧ (edgeAt [0x85, 0xFF]).memRead 0x0401 = 0xFF) ∧
      edgeOther.readCell 0x00FF = 0x99 ∧ (edgeAt [0x85, 0xFF]).memRead 0x00FF = 0xFE := by decide

theorem witness_StepDepends_accesses :
    stepAccesses (edgeAt [0x85, 0xFF]) = [.read 0x0400, .read 0x0401, .write 0x00FF] ∧
      step { edgeAt [0x85, 0xFF] with mem := edgeOther } =
        .next (after { edgeAt [0x85, 0xFF] with mem := edgeOther }) :=
  ⟨rfl, rfl⟩

theorem witness_StepChanges :
    step (edgeAt [0x85, 0xFF]) = .next (after (edgeAt [0x85, 0xFF])) ∧
      (0x0000 : Word) ∉ writeAddrs (stepAccesses (edgeAt [0x85, 0xFF])) := by
  (repeat' apply And.intro) <;> first | rfl | decide

theorem witness_InertFlags : (Instr.adcImm 0x99).op ≠ .php ∧ Instr.plp.op ≠ .php := by decide

theorem witness_Load :
    (LoadRequest.mk 0xFFFE [0x01, 0x02]).addr.toNat + (LoadRequest.mk 0xFFFE [0x01, 0x02]).bytes.length = 65536 ∧
      (LoadRequest.mk 0xFFFF [0x01, 0x02]).addr.toNat + (LoadRequest.mk 0xFFFF [0x01, 0x02]).bytes.length = 65537 := by
  decide

theorem witness_RunEnds :
    hostRun 2 (edgeAt [0xEA, 0x00]) = .fault (.brk { edgeAt [0xEA, 0x00] with pc := 0x0401 }) ∧
      hostRun 1 (edgeAt [0xEA, 0x00]) = .next { edgeAt [0xEA, 0x00] with pc := 0x0401 } := by
  (repeat' apply And.intro) <;> rfl

theorem witness_JumpToItself :
    let s := edgeAt [0x4C, 0x00, 0x04]
    s.memRead s.pc = 0x4C ∧ s.memRead (s.pc + 1) = loByte s.pc ∧ s.memRead (s.pc + 2) = hiByte s.pc := by decide

end Sys2Proof.Tests
end

section
/-! PROOFS. What `exec` makes of a state, as one inductive relation with a case per group of operations; from it the frames
of the registers and flags and the statements about the inert flags (10_state.md). -/

namespace Sys2Proof.Machine

open Sys2Proof.Claims

/-! ### The outcome of `exec`, by group of operations -/

/-- The effect of an instruction of none of the four groups of Laws/Exec.lean; none for those groups and for BRK. -/
def ownEffect : Instr → Option (State → State)
  | .inx => some fun s => loadX (s.x + 1) s
  | .iny => some fun s => loadY (s.y + 1) s
  | .dex => some fun s => loadX (s.x - 1) s
  | .dey => some fun s => loadY (s.y - 1) s
  | .tax => some fun s => loadX s.a s
  | .tay => some fun s => loadY s.a s
  | .txa => some fun s => loadA s.x s
  | .tya => some fun s => loadA s.y s
  | .tsx => some fun s => loadX s.sp s
  | .txs => some fun s => { s with sp := s.x }
  | .jmpAbs target => some fun s => { s with pc := target }
  | .jmpInd ptr => some fun s => { s with pc := jmpIndTarget ptr s }
  | .jsr target => some (callSubroutine target)
  | .rts => some returnFromSubroutine
  | .pha => some fun s => s.push s.a
  | .php => some fun s => s.push (pushedStatus s)
  | .pla => some fun s => loadA s.pull.1 s.pull.2
  | .plp => some fun s => unpack s.pull.1 s.pull.2
  | .clc => some fun s => { s with c := false }
  | .sec => some fun s => { s with c := true }
  | .cli => some fun s => { s with i := false }
  | .sei => some fun s => { s with i := true }
  | .clv => some fun s => { s with v := false }
  | .cld => some fun s => { s with d := false }
  | .sed => some fun s => { s with d := true }
  | .nop => some id
  | _ => none

theorem exec_own {instr : Instr} {e : State → State} (h : ownEffect instr = some e) (s : State) :
    exec instr s = .next (e s) := by
  cases instr <;> cases h <;> rfl

/-- `ExecResult instr s t`: executing `instr` from `s` completes in `t`, with a case per group of operations. -/
inductive ExecResult (instr : Instr) (s : State) : State → Prop
  | reading {e m} (heff : readEffect instr.op = some e) (hm : readOperand instr s = some m) :
      ExecResult instr s (e m s)
  | storing {r ea} (heff : storeEffect instr.op = some r) (hea : effectiveAddress instr s = some ea) :
      ExecResult instr s (s.memWrite ea (r s))
  | modifyingAcc {f} (heff : modifyEffect instr.op = some f) (hmode : instr.mode = .acc) :
      ExecResult instr s (modifyAcc f s)
  | modifyingMem {f ea} (heff : modifyEffect instr.op = some f) (hmode : instr.mode ≠ .acc)
      (hea : effectiveAddress instr s = some ea) : ExecResult instr s (modifyMem f ea s)
  | branching {taken off} (heff : branchEffect instr.op = some taken) (hoff : instr.view.operand = .byte off) :
      ExecResult instr s (branchIf (taken s) off s)
  | own {e} (heff : ownEffect instr = some e) : ExecResult instr s (e s)

/-- Every instruction but BRK is in one of the groups. -/
theorem effect_or_brk (instr : Instr) :
    (∃ e, readEffect instr.op = some e) ∨ (∃ r, storeEffect instr.op = some r) ∨
      (∃ f, modifyEffect instr.op = some f) ∨ (∃ taken, branchEffect instr.op = some taken) ∨
      (∃ e, ownEffect instr = some e) ∨ instr = .brk := by
  cases instr <;> first
    | exact .inl ⟨_, rfl⟩
    | exact .inr (.inl ⟨_, rfl⟩)
    | exact .inr (.inr (.inl ⟨_, rfl⟩))
    | exact .inr (.inr (.inr (.inl ⟨_, rfl⟩)))
    | exact .inr (.inr (.inr (.inr (.inl ⟨_, rfl⟩))))
    | exact .inr (.inr (.inr (.inr (.inr rfl))))

/-- Every instruction but BRK completes by its group's effect. -/
theorem execResult_or_brk (instr : Instr) (s : State) :
    (∃ t, exec instr s = .next t ∧ ExecResult instr s t) ∨ instr = .brk := by
  rcases effect_or_brk instr with ⟨e, h⟩ | ⟨r, h⟩ | ⟨f, h⟩ | ⟨taken, h⟩ | ⟨e, h⟩ | h
  · obtain ⟨m, hm, hex⟩ := exec_reading h s
    exact .inl ⟨_, hex, .reading h hm⟩
  · obtain ⟨ea, hea, hex⟩ := exec_storing h s
    exact .inl ⟨_, hex, .storing h hea⟩
  · rcases exec_modifying h s with ⟨hmode, hex⟩ | ⟨hmode, ea, hea, hex⟩
    · exact .inl ⟨_, hex, .modifyingAcc h hmode⟩
    · exact .inl ⟨_, hex, .modifyingMem h hmode hea⟩
  · obtain ⟨off, hoff, hex⟩ := exec_branch h s
    exact .inl ⟨_, hex, .branching h hoff⟩
  · exact .inl ⟨_, exec_own h s, .own h⟩
  · exact .inr h

theorem execResult_of_exec {instr : Instr} {s t : State} (h : exec instr s = .next t) : ExecResult instr s t := by
  rcases execResult_or_brk instr s with ⟨t', hex, hres⟩ | rfl
  · cases hex.symm.trans h
    exact hres
  · cases h

theorem exec_of_execResult {instr : Instr} {s t : State} (h : ExecResult instr s t) : exec instr s = .next t := by
  cases h with
  | reading heff hm =>
    obtain ⟨m, hm', hex⟩ := exec_reading heff s
    rw [hex, Option.some.inj (hm'.symm.trans hm)]
  | storing heff hea =>
    obtain ⟨ea, hea', hex⟩ := exec_storing heff s
    rw [hex, Option.some.inj (hea'.symm.trans hea)]
  | modifyingAcc heff hmode =>
    rcases exec_modifying heff s with ⟨-, hex⟩ | ⟨hmode', -⟩
    · exact hex
    · exact absurd hmode hmode'
  | modifyingMem heff hmode hea =>
    rcases exec_modifying heff s with ⟨hmode', -⟩ | ⟨-, ea, hea', hex⟩
    · exact absurd hmode' hmode
    · rw [hex, Option.some.inj (hea'.symm.trans hea)]
  | branching heff hoff =>
    obtain ⟨off, hoff', hex⟩ := exec_branch heff s
    rw [hex, Operand.byte.inj (hoff'.symm.trans hoff)]
  | own heff => exact exec_own heff s

/-! ### Which operation writes which register and flag (10_state.md R10, R22) -/

/-- A, X and Y are as before unless the operation is in their rows of R10's table. -/
def RegistersFramed (op : Op) (mode : Mode) (s t : State) : Prop :=
  (op ∉ writersA → mode ≠ .acc → t.a = s.a) ∧
    (op ∉ [.ldx, .tax, .tsx, .inx, .dex] → t.x = s.x) ∧ (op ∉ [.ldy, .tay, .iny, .dey] → t.y = s.y)

/-- Each flag is as before unless the operation is in its row of R22's table. -/
def FlagsFramed (op : Op) (s t : State) : Prop :=
  (op ∉ writersN → t.n = s.n ∧ t.z = s.z) ∧ (op ∉ [.adc, .sbc, .bit, .clv, .plp] → t.v = s.v) ∧
    (op ≠ .plp → t.b = s.b) ∧ (op ∉ [.sed, .cld, .plp] → t.d = s.d) ∧
    (op ∉ [.sei, .cli, .plp] → t.i = s.i) ∧ (op ∉ writersC → t.c = s.c)

theorem readEffect_framed {op : Op} {e : Byte → State → State} (h : readEffect op = some e) (mode : Mode)
    (m : Byte) (s : State) : RegistersFramed op mode s (e m s) ∧ FlagsFramed op s (e m s) := by
  cases op <;> cases h <;>
    simp [RegistersFramed, FlagsFramed, writersA, writersN, writersC, loadA, loadX, loadY, andA, eorA, oraA, cmpA,
      cmpX, cmpY, subWithCarry]

/-- INC and DEC, the transformations that are not in C's row, hand the carry through. -/
theorem modifyEffect_carry {op : Op} {f : Transform} (h : modifyEffect op = some f) (hop : op ∉ writersC) (v : Byte)
    (cin : Bool) : (f v cin).2 = cin := by
  cases op <;> cases h <;> first
    | rfl
    | exact absurd (by decide) hop

theorem modifyEffect_mem_writersN {op : Op} {f : Transform} (h : modifyEffect op = some f) : op ∈ writersN := by
  cases op <;> cases h <;> decide

theorem branchIf_framed (op : Op) (mode : Mode) (taken : Bool) (off : Byte) (s : State) :
    RegistersFramed op mode s (branchIf taken off s) ∧ FlagsFramed op s (branchIf taken off s) := by
  cases taken <;> simp [RegistersFramed, FlagsFramed, branchIf]

theorem ownEffect_framed {instr : Instr} {e : State → State} (h : ownEffect instr = some e) (s : State) :
    RegistersFramed instr.op instr.mode s (e s) ∧ FlagsFramed instr.op s (e s) := by
  cases instr <;> cases h <;>
    simp [RegistersFramed, FlagsFramed, Instr.op, Instr.view, writersA, writersN, writersC, loadA, loadX, loadY,
      callSubroutine, returnFromSubroutine]

theorem ExecResult.framed {instr : Instr} {s t : State} (h : ExecResult instr s t) :
    RegistersFramed instr.op instr.mode s t ∧ FlagsFramed instr.op s t := by
  cases h with
  | reading heff => exact readEffect_framed heff _ _ _
  | storing => simp [RegistersFramed, FlagsFramed]
  | modifyingAcc heff hmode =>
    simp +contextual [RegistersFramed, FlagsFramed, hmode, modifyEffect_mem_writersN heff, modifyEffect_carry heff]
  | modifyingMem heff =>
    simp +contextual [RegistersFramed, FlagsFramed, modifyEffect_mem_writersN heff, modifyEffect_carry heff]
  | branching => exact branchIf_framed _ _ _ _ _
  | own heff => exact ownEffect_framed heff s

/-- Settles O44: the register half of the frame that every group of operations keeps. -/
theorem registersChangeOnlyByTheirWriters : Obligations.RegistersChangeOnlyByTheirWriters :=
  fun _ _ _ h => (execResult_of_exec h).framed.1

/-- Settles O45: the flag half of the frame that every group of operations keeps. -/
theorem flagsChangeOnlyByTheirWriters : Obligations.FlagsChangeOnlyByTheirWriters :=
  fun _ _ _ h => (execResult_of_exec h).framed.2

/-! ### The inert flags (10_state.md R14) -/

/-- The flags that are stored and steer nothing. -/
inductive InertFlag where
  | b | d | i

/-- Set an inert flag to `k`. -/
def InertFlag.put : InertFlag → Bool → State → State
  | .b, k, s => { s with b := k }
  | .d, k, s => { s with d := k }
  | .i, k, s => { s with i := k }

/-- R22: the operations that write the flag. -/
def InertFlag.writers : InertFlag → List Op
  | .b => [.plp]
  | .d => [.sed, .cld, .plp]
  | .i => [.sei, .cli, .plp]

/-- R15: PHP stores D and I, and bit 4 as 1 whatever B holds. -/
def InertFlag.readers : InertFlag → List Op
  | .b => []
  | .d => [.php]
  | .i => [.php]

@[simp] theorem put_pc (f : InertFlag) (k : Bool) (s : State) : (f.put k s).pc = s.pc := by cases f <;> rfl

@[simp] theorem put_memRead (f : InertFlag) (k : Bool) (s : State) (addr : Word) :
    (f.put k s).memRead addr = s.memRead addr := by cases f <;> rfl

@[simp] theorem put_put (f : InertFlag) (j k : Bool) (s : State) : f.put j (f.put k s) = f.put j s := by
  cases f <;> rfl

@[simp] theorem mapOutcome_put_put (f : InertFlag) (j k : Bool) (o : StepResult) :
    mapOutcome (f.put j) (mapOutcome (f.put k) o) = mapOutcome (f.put j) o := by
  rcases o with s | (s | ⟨opcode, s⟩) | r <;> simp [mapOutcome]

theorem effectiveAddress_put (f : InertFlag) (k : Bool) (instr : Instr) (s : State) :
    effectiveAddress instr (f.put k s) = effectiveAddress instr s := by cases f <;> rfl

theorem readOperand_put (f : InertFlag) (k : Bool) (instr : Instr) (s : State) :
    readOperand instr (f.put k s) = readOperand instr s := by cases f <;> rfl

theorem readEffect_put {op : Op} {e : Byte → State → State} (h : readEffect op = some e) (f : InertFlag) (k : Bool)
    (m : Byte) (s : State) : e m (f.put k s) = f.put k (e m s) := by
  cases op <;> cases h <;> cases f <;> rfl

theorem memWrite_put (f : InertFlag) (k : Bool) (ea : Word) (v : Byte) (s : State) :
    (f.put k s).memWrite ea v = f.put k (s.memWrite ea v) := by cases f <;> rfl

theorem storeEffect_put {op : Op} {r : State → Byte} (h : storeEffect op = some r) (f : InertFlag) (k : Bool)
    (s : State) : r (f.put k s) = r s := by
  cases op <;> cases h <;> cases f <;> rfl

theorem modifyAcc_put (f : InertFlag) (k : Bool) (g : Transform) (s : State) :
    modifyAcc g (f.put k s) = f.put k (modifyAcc g s) := by cases f <;> rfl

theorem modifyMem_put (f : InertFlag) (k : Bool) (g : Transform) (ea : Word) (s : State) :
    modifyMem g ea (f.put k s) = f.put k (modifyMem g ea s) := by cases f <;> rfl

theorem branchEffect_put {op : Op} {taken : State → Bool} (h : branchEffect op = some taken) (f : InertFlag)
    (k : Bool) (s : State) : taken (f.put k s) = taken s := by
  cases op <;> cases h <;> cases f <;> rfl

theorem branchIf_put (f : InertFlag) (k taken : Bool) (off : Byte) (s : State) :
    branchIf taken off (f.put k s) = f.put k (branchIf taken off s) := by
  cases taken <;> cases f <;> rfl

/-- R15: bit 4 of the pushed status is 1 whatever B holds. -/
theorem pushedStatus_eq_without_b (s : State) :
    pushedStatus s = statusBit s.n 7 ||| statusBit s.v 6 ||| statusBit s.d 3 ||| statusBit s.i 2 |||
      statusBit s.z 1 ||| statusBit s.c 0 ||| 0x30 := by
  have hbit : statusBit s.b 4 ||| 0x30 = 0x30 := by cases s.b <;> rfl
  rw [← hbit, pushedStatus, pack]
  ac_rfl

theorem pushedStatus_put_b (k : Bool) (s : State) : pushedStatus (InertFlag.b.put k s) = pushedStatus s := by
  rw [pushedStatus_eq_without_b, pushedStatus_eq_without_b]
  rfl

/-- An operation of its own that neither reads nor writes the flag hands it through. -/
theorem ownEffect_put {instr : Instr} {e : State → State} (h : ownEffect instr = some e) (f : InertFlag) (k : Bool)
    (hw : instr.op ∉ f.writers) (hr : instr.op ∉ f.readers) (s : State) : e (f.put k s) = f.put k (e s) := by
  by_cases hphp : instr = .php ∧ f = .b
  · obtain ⟨rfl, rfl⟩ := hphp
    cases h
    exact congrArg (InertFlag.b.put k s).push (pushedStatus_put_b k s)
  · cases f <;> cases instr <;> cases h <;> first
      | rfl
      | exact absurd (by decide) hw
      | exact absurd (by decide) hr
      | exact absurd ⟨rfl, rfl⟩ hphp

/-- The outcome of an instruction that neither reads nor writes the flag hands it through. -/
theorem ExecResult.put {instr : Instr} {s t : State} (h : ExecResult instr s t) (f : InertFlag) (k : Bool)
    (hw : instr.op ∉ f.writers) (hr : instr.op ∉ f.readers) : ExecResult instr (f.put k s) (f.put k t) := by
  cases h with
  | reading heff hm =>
    rw [← readEffect_put heff]
    exact .reading heff (readOperand_put f k instr s ▸ hm)
  | storing heff hea =>
    rw [← memWrite_put, ← storeEffect_put heff f k s]
    exact .storing heff (effectiveAddress_put f k instr s ▸ hea)
  | modifyingAcc heff hmode =>
    rw [← modifyAcc_put]
    exact .modifyingAcc heff hmode
  | modifyingMem heff hmode hea =>
    rw [← modifyMem_put]
    exact .modifyingMem heff hmode (effectiveAddress_put f k instr s ▸ hea)
  | branching heff hoff =>
    rw [← branchIf_put, ← branchEffect_put heff f k s]
    exact .branching heff hoff
  | own heff =>
    rw [← ownEffect_put heff f k hw hr]
    exact .own heff

/-- A writer of the flag forgets the value it had. -/
theorem exec_writer_put (f : InertFlag) (k : Bool) {instr : Instr} (hw : instr.op ∈ f.writers) (s : State) :
    ∃ k', exec instr (f.put k s) = mapOutcome (f.put k') (exec instr s) := by
  cases f <;> cases instr <;> first
    | (simp [InertFlag.writers, Instr.op, Instr.view] at hw; done)
    | exact ⟨_, rfl⟩

/-- Started with the flag at `k`, an instruction that does not read it ends alike, with the flag at some `k'`: at `k`
if it does not write the flag either, else at the value it writes. -/
theorem exec_put (f : InertFlag) (k : Bool) {instr : Instr} (hr : instr.op ∉ f.readers) (s : State) :
    ∃ k', exec instr (f.put k s) = mapOutcome (f.put k') (exec instr s) := by
  by_cases hw : instr.op ∈ f.writers
  · exact exec_writer_put f k hw s
  · rcases execResult_or_brk instr s with ⟨t, hex, hres⟩ | rfl
    · exact ⟨k, by rw [hex, exec_of_execResult (hres.put f k hw hr)]; rfl⟩
    · exact ⟨k, by cases f <;> rfl⟩

/-- In the form of the statements: with the flag cleared afterwards, the outcomes are equal. -/
theorem exec_put_erased (f : InertFlag) (k : Bool) {instr : Instr} (hr : instr.op ∉ f.readers) (s : State) :
    mapOutcome (f.put false) (exec instr (f.put k s)) = mapOutcome (f.put false) (exec instr s) := by
  obtain ⟨k', h⟩ := exec_put f k hr s
  rw [h, mapOutcome_put_put]

/-- Settles O57: D and I are inert flags that PHP alone reads. -/
theorem decimalAndInterruptFlagsAreInert : Obligations.DecimalAndInterruptFlagsAreInert := by
  intro instr s k hphp
  have hreaders : instr.op ∉ [.php] := by simpa using hphp
  exact ⟨exec_put_erased .d k hreaders s, exec_put_erased .i k hreaders s⟩

theorem fetchOperand_put (f : InertFlag) (k : Bool) (row : Row) (s : State) :
    fetchOperand row (f.put k s) = ((fetchOperand row s).1, f.put k (fetchOperand row s).2) := by
  cases f <;> cases row <;> rfl

theorem put_with_pc (f : InertFlag) (k : Bool) (pc : Word) (s : State) :
    { f.put k s with pc := pc } = f.put k { s with pc := pc } := by cases f <;> rfl

theorem step_of_row {s : State} {row : Row} (h : decodeOpcode (s.memRead s.pc) = some row) :
    step s = exec (fetchOperand row { s with pc := s.pc + 1 }).1 (fetchOperand row { s with pc := s.pc + 1 }).2 := by
  simp [step, fetchInstr_of_row h]

/-- A step from states that differ in B alone ends alike, in states that differ at most in B. -/
theorem step_put_b (k : Bool) (s : State) :
    ∃ k', step (InertFlag.b.put k s) = mapOutcome (InertFlag.b.put k') (step s) := by
  cases hrow : decodeOpcode (s.memRead s.pc) with
  | none => exact ⟨k, by rw [step_of_unassigned hrow, step_of_unassigned (by simpa using hrow)]; rfl⟩
  | some row =>
    rw [step_of_row hrow, step_of_row (by simpa using hrow), put_with_pc, put_pc, fetchOperand_put]
    exact exec_put .b k List.not_mem_nil _

/-- A run of any bound from states that differ in B alone ends alike, in states that differ at most in B. -/
theorem hostRun_put_b (n : Nat) (k : Bool) (s : State) :
    ∃ k', hostRun n (InertFlag.b.put k s) = mapOutcome (InertFlag.b.put k') (hostRun n s) := by
  induction n generalizing k s with
  | zero => exact ⟨k, rfl⟩
  | succ n ih =>
    obtain ⟨k', hstep⟩ := step_put_b k s
    cases hs : step s with
    | next t =>
      obtain ⟨k'', hrun⟩ := ih k' t
      exact ⟨k'', by simp [hostRun, hstep, hs, mapOutcome, hrun]⟩
    | fault r => exact ⟨k', by cases r <;> simp [hostRun, hstep, hs, mapOutcome]⟩
    | refused r => exact ⟨k', by simp [hostRun, hstep, hs, mapOutcome]⟩

/-- Settles O56, by induction on the bound: the value that B ends with may differ, and is cleared on both sides. -/
theorem noProgramObservesFlagB : Obligations.NoProgramObservesFlagB := by
  intro n s k
  obtain ⟨k', hrun⟩ := hostRun_put_b n k s
  exact (congrArg (mapOutcome (InertFlag.b.put false)) hrun).trans (mapOutcome_put_put .b false k' _)

/-! ### The stack page and reset -/

/-- Settles O8: the stack address never carries out of the page, so the SP values 0x00 and 0xFF wrap. -/
theorem stackPointerWrapsInsideItsPage : Obligations.StackPointerWrapsInsideItsPage := by
  intro s v
  have hbottom : stackAddr 0x00 = 0x0100 := rfl
  refine ⟨stackAddr_toNat s.sp, fun hsp => ⟨?_, ?_⟩, fun hsp => ?_⟩
  · rw [push_sp, hsp]
    rfl
  · rw [memRead_push, hsp, hbottom, if_pos rfl]
  · have hwrap : s.sp + 1 = 0x00 := by rw [hsp]; rfl
    simp only [State.pull, hwrap, hbottom]
    rfl

theorem pack_hostReset (s : State) : pack (hostReset s) = 0x00 :=
  show pack State.reset = 0x00 by decide

/-- Settles O9: the register file is the fixed one of `State.reset`, over the old memory or the empty one. -/
theorem resetWritesTheRegisterFile : Obligations.ResetWritesTheRegisterFile := by
  refine ⟨fun s => ⟨hostReset s, ?_⟩, fun s given => ⟨hostPowerOn given, rfl, rfl, rfl, fun addr => rfl⟩, rfl⟩
  exact ⟨rfl, rfl, rfl, rfl, rfl, rfl, rfl, rfl, rfl, rfl, rfl, rfl, rfl, pack_hostReset s,
    memRead_congr (hostReset_mem s)⟩

end Sys2Proof.Machine
end

section
/-! PROOFS. The memory port, the stack and the invariant (20_memory.md R31 to R41); then what the access lists of R36
and R46 say of a step: which bytes it may change, which bytes it may depend on, and how many accesses it makes. -/

namespace Sys2Proof.Machine

open Sys2Proof.Claims

/-! ### The memory port and the canonical form -/

/-- Settles O4: the read-after-write law of the port, at the address and beside it. -/
theorem memoryPortStoresOneByte : Obligations.MemoryPortStoresOneByte := by
  intro s addr v
  refine ⟨?_, fun other hother => ?_, rfl⟩
  · rw [memRead_memWrite, if_pos rfl]
  · rw [memRead_memWrite, if_neg hother]

/-- Settles O10: the memory after power-on lists no cell. -/
theorem powerOnMemoryIsCanonical : Obligations.PowerOnMemoryIsCanonical :=
  reset_wf

/-- Settles O11: the fetch leaves memory alone, and every instruction keeps the canonical form. -/
theorem stepKeepsMemoryCanonical : Obligations.StepKeepsMemoryCanonical := by
  intro s t hs hstep
  obtain ⟨instr, u, hfetch, hexec⟩ := step_next hstep
  have hmem : u.mem = s.mem := by rw [fetchInstr_ok_state hfetch]
  exact exec_keeps_wf (hmem ▸ hs) hexec

/-- In a list of rising addresses a listed cell is the one that is read. -/
theorem Memory.readCell_of_mem {m : Memory} {addr : Nat} {v : Byte} (hsorted : m.Pairwise fun p q => p.1 < q.1)
    (h : (addr, v) ∈ m) : m.readCell addr = v := by
  induction m with
  | nil => cases h
  | cons p m ih =>
    obtain ⟨hhead, htail⟩ := List.pairwise_cons.mp hsorted
    rw [Memory.readCell_cons]
    rcases List.mem_cons.mp h with rfl | h
    · rw [if_pos rfl]
    · rw [if_neg (hhead _ h).ne, ih htail h]

/-- A location that does not read as `MEM_INIT` is listed. -/
theorem Memory.mem_of_readCell {m : Memory} {addr : Nat} (h : m.readCell addr ≠ Config.memInit) :
    (addr, m.readCell addr) ∈ m := by
  induction m with
  | nil => exact absurd rfl h
  | cons p m ih =>
    rw [Memory.readCell_cons] at h ⊢
    split
    case isTrue hk => simp [← hk]
    case isFalse hk =>
      rw [if_neg hk] at h
      exact List.mem_cons_of_mem _ (ih h)

/-- The cells of a canonical memory are the locations that do not read as `MEM_INIT`, with what they read as. -/
theorem Memory.mem_iff_readCell {m : Memory} (h : m.wf) (p : Host.Cell) :
    p ∈ m ↔ m.readCell p.1 = p.2 ∧ p.2 ≠ Config.memInit := by
  obtain ⟨addr, v⟩ := p
  constructor
  · exact fun hp => ⟨Memory.readCell_of_mem h.1 hp, (h.2 _ hp).2⟩
  · rintro ⟨(rfl : m.readCell addr = v), hv⟩
    exact Memory.mem_of_readCell hv

/-- Settles O5: reading alike the two lists have the same cells, and they are sorted. -/
theorem canonicalMemoriesThatReadAlikeAreEqual : Obligations.CanonicalMemoriesThatReadAlikeAreEqual := by
  intro m m' hm hm' hread
  have hcells : ∀ p, p ∈ m ↔ p ∈ m' := fun p => by
    rw [Memory.mem_iff_readCell hm, Memory.mem_iff_readCell hm', hread]
  have hperm : m.Perm m' :=
    (List.perm_ext_iff_of_nodup (hm.1.imp fun hlt heq => hlt.ne (congrArg Prod.fst heq))
      (hm'.1.imp fun hlt heq => hlt.ne (congrArg Prod.fst heq))).mpr hcells
  exact hperm.eq_of_pairwise (fun _ _ _ _ hpq hqp => absurd hqp hpq.asymm) hm.1 hm'.1

/-! ### Words and the stack -/

theorem memReadWord_eq (s : State) (addr : Word) :
    s.memReadWord addr = wordOf (s.memRead (addr + 1)) (s.memRead addr) := rfl

theorem addr_add_one_ne (addr : Word) : addr + 1 ≠ addr := by bv_omega

/-- What the two writes of a word store, read at any address. -/
theorem memRead_memWriteWord (s : State) (addr w other : Word) :
    (s.memWriteWord addr w).memRead other =
      if other = addr + 1 then hiByte w else if other = addr then loByte w else s.memRead other := by
  rw [State.memWriteWord, memRead_memWrite, memRead_memWrite]

/-- Settles O6: the byte order of `wordOf`, and the two writes of a word read at the two addresses and beside them. -/
theorem wordsAreLittleEndianAndWrap : Obligations.WordsAreLittleEndianAndWrap := by
  intro s addr w
  have hlow : (s.memWriteWord addr w).memRead addr = loByte w := by
    rw [memRead_memWriteWord, if_neg (addr_add_one_ne addr).symm, if_pos rfl]
  have hhigh : (s.memWriteWord addr w).memRead (addr + 1) = hiByte w := by
    rw [memRead_memWriteWord, if_pos rfl]
  refine ⟨?_, rfl, ?_, hlow, fun other hlo hhi => ?_⟩
  · have hnext : BitVec.ofNat 16 (addr.toNat + 1) = addr + 1 := by bv_omega
    rw [memReadWord_eq, wordOf_toNat, hnext]
  · rw [memReadWord_eq, hlow, hhigh, wordOf_hiByte_loByte]
  · rw [memRead_memWriteWord, if_neg hhi, if_neg hlo]

/-- The two bytes of a pushed word lie at different addresses. -/
theorem stackAddr_ne_pred (sp : Byte) : stackAddr sp ≠ stackAddr (sp - 1) :=
  fun h => absurd (stackAddr_inj.mp h) (by bv_omega)

/-- Settles O7: the pulls read the two bytes that the pushes stored, in the opposite order. -/
theorem pushedWordIsPulledBack : Obligations.PushedWordIsPulledBack := by
  intro s w
  have hhigh : (s.pushWord w).memRead (stackAddr s.sp) = hiByte w := by
    rw [memRead_pushWord, if_neg (stackAddr_ne_pred s.sp), if_pos rfl]
  have hlow : (s.pushWord w).memRead (stackAddr (s.sp - 1)) = loByte w := by
    rw [memRead_pushWord, if_pos rfl]
  refine ⟨Prod.ext ?_ ?_, hhigh, hlow, fun other hhi hlo => ?_⟩
  · have hsp₁ : (s.pushWord w).sp + 1 = s.sp - 1 := BitVec.sub_add_cancel _ _
    have hsp₂ : s.sp - 1 + 1 = s.sp := BitVec.sub_add_cancel _ _
    rw [pullWord_fst, hsp₁, hsp₂, hhigh, hlow, wordOf_hiByte_loByte]
  · have hsp : (s.pushWord w).sp + 1 + 1 = s.sp := by rw [pushWord_sp]; bv_omega
    exact congrArg (fun sp => { s with sp := sp, mem := (s.pushWord w).mem }) hsp
  · rw [memRead_pushWord, if_neg hlo, if_neg hhi]

/-! ### The addresses that an access list reads and writes -/

@[simp] theorem readAddrs_append (as bs : List Access) : readAddrs (as ++ bs) = readAddrs as ++ readAddrs bs := by
  induction as with
  | nil => rfl
  | cons a as ih => cases a <;> simp [readAddrs, ih]

@[simp] theorem writeAddrs_append (as bs : List Access) : writeAddrs (as ++ bs) = writeAddrs as ++ writeAddrs bs := by
  induction as with
  | nil => rfl
  | cons a as ih => cases a <;> simp [writeAddrs, ih]

@[simp] theorem readAddrs_map_read (addrs : List Word) : readAddrs (addrs.map .read) = addrs := by
  induction addrs with
  | nil => rfl
  | cons addr addrs ih => simp [readAddrs, ih]

@[simp] theorem writeAddrs_map_read (addrs : List Word) : writeAddrs (addrs.map .read) = [] := by
  induction addrs with
  | nil => rfl
  | cons addr addrs ih => simp [writeAddrs, ih]

theorem dataAccesses_of_reading {instr : Instr} {e : Byte → State → State} (h : readEffect instr.op = some e)
    (s : State) : dataAccesses instr s = (effectiveAddress instr s).toList.map .read := by
  unfold dataAccesses
  generalize instr.op = op at h
  cases op <;> cases h <;> rfl

theorem dataAccesses_of_storing {instr : Instr} {r : State → Byte} (h : storeEffect instr.op = some r) {s : State}
    {ea : Word} (hea : effectiveAddress instr s = some ea) : dataAccesses instr s = [.write ea] := by
  unfold dataAccesses
  rw [hea]
  generalize instr.op = op at h
  cases op <;> cases h <;> rfl

theorem dataAccesses_of_modifying {instr : Instr} {f : Transform} (h : modifyEffect instr.op = some f) {s : State}
    {ea : Word} (hea : effectiveAddress instr s = some ea) : dataAccesses instr s = [.read ea, .write ea] := by
  unfold dataAccesses
  rw [hea]
  generalize instr.op = op at h
  cases op <;> cases h <;> rfl

theorem dataAccesses_of_modifyingAcc {instr : Instr} (hmode : instr.mode = .acc) (s : State) :
    dataAccesses instr s = [] := by
  cases instr <;> cases hmode <;> rfl

theorem dataAccesses_of_branching {instr : Instr} {taken : State → Bool} (h : branchEffect instr.op = some taken)
    (s : State) : dataAccesses instr s = [] := by
  unfold dataAccesses
  generalize instr.op = op at h
  cases op <;> cases h <;> rfl

@[simp] theorem writeAddrs_pointerAccesses (instr : Instr) (s : State) :
    writeAddrs (pointerAccesses instr s) = [] := by
  unfold pointerAccesses
  split <;> rfl

/-- Only the data accesses of the execute phase write. -/
theorem writeAddrs_execAccesses (instr : Instr) (s : State) :
    writeAddrs (execAccesses instr s) = writeAddrs (dataAccesses instr s) := by
  simp [execAccesses]

theorem writeAddrs_of_push {instr : Instr} (hop : instr.op ∈ [.pha, .php]) (s : State) :
    writeAddrs (execAccesses instr s) = [stackAddr s.sp] := by
  rw [writeAddrs_execAccesses]
  unfold dataAccesses
  generalize instr.op = op at hop
  cases op <;> first
    | rfl
    | exact absurd hop (by decide)

theorem writeAddrs_of_jsr {instr : Instr} (hop : instr.op = .jsr) (s : State) :
    writeAddrs (execAccesses instr s) = [stackAddr s.sp, stackAddr (s.sp - 1)] := by
  rw [writeAddrs_execAccesses, dataAccesses, hop]
  rfl

/-! ### The bytes that the execute phase changes (R36) -/

theorem memRead_modifyMem (f : Transform) (ea : Word) (s : State) (other : Word) :
    (modifyMem f ea s).memRead other = if other = ea then (f (s.memRead ea) s.c).1 else s.memRead other :=
  memRead_memWrite s ea other _

theorem readEffect_mem {op : Op} {e : Byte → State → State} (h : readEffect op = some e) (v : Byte) (s : State) :
    (e v s).mem = s.mem := by
  cases op <;> cases h <;> rfl

@[simp] theorem branchIf_mem (taken : Bool) (off : Byte) (s : State) : (branchIf taken off s).mem = s.mem := by
  cases taken <;> rfl

theorem callSubroutine_memRead (target : Word) (s : State) (addr : Word) :
    (callSubroutine target s).memRead addr = (s.pushWord s.pc).memRead addr := rfl

/-- Of the operations in no group, only PHA, PHP and JSR store. -/
theorem ownEffect_keeps_memory_or_pushes {instr : Instr} {e : State → State} (h : ownEffect instr = some e) :
    memoryKeeping instr.op = true ∨ instr = .pha ∨ instr = .php ∨ ∃ target, instr = .jsr target := by
  cases instr <;> cases h <;> first
    | exact .inl rfl
    | exact .inr (.inl rfl)
    | exact .inr (.inr (.inl rfl))
    | exact .inr (.inr (.inr ⟨_, rfl⟩))

theorem ownEffect_memRead {instr : Instr} {e : State → State} (h : ownEffect instr = some e) {s : State} {addr : Word}
    (haddr : addr ∉ writeAddrs (execAccesses instr s)) : (e s).memRead addr = s.memRead addr := by
  rcases ownEffect_keeps_memory_or_pushes h with hkeep | rfl | rfl | ⟨target, rfl⟩
  case inl => exact memRead_congr (exec_keeps_memory hkeep (exec_own h s)) addr
  case inr.inr.inr =>
    cases h
    rw [writeAddrs_of_jsr rfl] at haddr
    obtain ⟨hhigh, hlow⟩ : addr ≠ stackAddr s.sp ∧ addr ≠ stackAddr (s.sp - 1) := by simpa using haddr
    rw [callSubroutine_memRead, memRead_pushWord, if_neg hlow, if_neg hhigh]
  all_goals
    cases h
    rw [writeAddrs_of_push (by decide)] at haddr
    rw [memRead_push, if_neg (by simpa using haddr)]

/-- The execute phase changes no byte but the ones its access list writes. -/
theorem exec_memRead_of_not_written {instr : Instr} {s t : State} (h : exec instr s = .next t) {addr : Word}
    (haddr : addr ∉ writeAddrs (execAccesses instr s)) : t.memRead addr = s.memRead addr := by
  cases execResult_of_exec h with
  | reading heff => exact memRead_congr (readEffect_mem heff _ s) addr
  | storing heff hea =>
    rw [writeAddrs_execAccesses, dataAccesses_of_storing heff hea] at haddr
    rw [memRead_memWrite, if_neg (by simpa [writeAddrs] using haddr)]
  | modifyingAcc => rfl
  | modifyingMem heff _ hea =>
    rw [writeAddrs_execAccesses, dataAccesses_of_modifying heff hea] at haddr
    rw [memRead_modifyMem, if_neg (by simpa [writeAddrs] using haddr)]
  | branching => exact memRead_congr (branchIf_mem _ _ s) addr
  | own heff => exact ownEffect_memRead heff haddr

/-- A form that stores nothing has no write in its access list. -/
theorem writeAddrs_of_storing_nothing {instr : Instr} (hstore : instr.op ∉ [.sta, .stx, .sty, .pha, .php, .jsr])
    (hmodify : instr.op ∈ modifyingOps → instr.mode = .acc) (s : State) :
    writeAddrs (execAccesses instr s) = [] := by
  rw [writeAddrs_execAccesses]
  by_cases hop : instr.op ∈ modifyingOps
  · rw [dataAccesses_of_modifyingAcc (hmodify hop)]
    rfl
  · unfold dataAccesses
    generalize instr.op = op at hstore hop
    cases op <;> first
      | exact writeAddrs_map_read _
      | rfl
      | exact absurd (by decide) hstore
      | exact absurd (by decide) hop

/-- Settles O42: such a form has no write in its access list. -/
theorem formsThatStoreNothingKeepMemory : Obligations.FormsThatStoreNothingKeepMemory := by
  intro instr s t hstore hmodify hexec addr
  apply exec_memRead_of_not_written hexec
  rw [writeAddrs_of_storing_nothing hstore hmodify]
  exact List.not_mem_nil

theorem writeAddrs_of_effectiveAddress {instr : Instr} {s : State} {ea : Word}
    (hop : instr.op ∈ [.sta, .stx, .sty] ++ modifyingOps) (hea : effectiveAddress instr s = some ea) :
    writeAddrs (execAccesses instr s) = [ea] := by
  rw [writeAddrs_execAccesses]
  unfold dataAccesses
  rw [hea]
  generalize instr.op = op at hop
  cases op <;> first
    | rfl
    | exact absurd hop (by decide)

/-- Settles O43: each of the three groups writes the addresses that the statement leaves out. -/
theorem storingFormsKeepEveryOtherByte : Obligations.StoringFormsKeepEveryOtherByte := by
  intro instr s t hexec
  refine ⟨fun ea hop hea addr haddr => ?_, fun hop addr haddr => ?_, fun hop addr hhigh hlow => ?_⟩ <;>
    apply exec_memRead_of_not_written hexec
  · simpa [writeAddrs_of_effectiveAddress hop hea] using haddr
  · simpa [writeAddrs_of_push hop] using haddr
  · simpa [writeAddrs_of_jsr hop] using ⟨hhigh, hlow⟩

/-! ### The accesses of a step (R46) -/

theorem stepAccesses_of_fetched {s u : State} {instr : Instr} (h : fetchInstr s = .ok (instr, u)) :
    stepAccesses s = fetchAccesses s ++ execAccesses instr u := by
  rw [stepAccesses, h]

theorem stepAccesses_of_unassigned {s : State} (h : decodeOpcode (s.memRead s.pc) = none) :
    stepAccesses s = fetchAccesses s := by
  rw [stepAccesses, fetchInstr_of_unassigned h]

theorem fetchAccesses_of_unassigned {s : State} (h : decodeOpcode (s.memRead s.pc) = none) :
    fetchAccesses s = [.read s.pc] := by
  simp [fetchAccesses, h]

/-- The fetch reads the opcode and the operand bytes that its row takes, in ascending order. -/
theorem fetchAccesses_of_row {s : State} {row : Row} (h : decodeOpcode (s.memRead s.pc) = some row) :
    fetchAccesses s = ((List.range (1 + row.operandBytes)).map fun k => s.pc + BitVec.ofNat 16 k).map .read := by
  cases row <;> simp [fetchAccesses, h, Row.operandBytes, List.range_succ]

@[simp] theorem writeAddrs_fetchAccesses (s : State) : writeAddrs (fetchAccesses s) = [] := by
  unfold fetchAccesses
  split <;> rfl

/-- Settles O54: the fetch changes no byte, and the execute phase only the ones it writes. -/
theorem stepChangesOnlyTheBytesItWrites : Obligations.StepChangesOnlyTheBytesItWrites := by
  intro s t hstep addr haddr
  obtain ⟨instr, u, hfetch, hexec⟩ := step_next hstep
  have hmem : u.mem = s.mem := by rw [fetchInstr_ok_state hfetch]
  rw [stepAccesses_of_fetched hfetch, writeAddrs_append, writeAddrs_fetchAccesses, List.nil_append] at haddr
  rw [exec_memRead_of_not_written hexec haddr, memRead_congr hmem]

/-- A row takes the operand bytes of the form of the instruction it completes to (R51). -/
theorem fetchOperand_operandBytes {opcode : Byte} {row : Row} (h : decodeOpcode opcode = some row) (s : State) :
    (fetchOperand row s).1.mode.operandBytes = row.operandBytes := by
  have henc := decodeOpcode_encodes h
  cases row with
  | op0 instr => exact henc.2
  | op1 mk => exact (henc _).2
  | op2 mk => exact (henc _).2

theorem fetchAccesses_length {s u : State} {instr : Instr} (h : fetchInstr s = .ok (instr, u)) :
    (fetchAccesses s).length = instr.length := by
  obtain ⟨row, hrow, rfl, -⟩ := fetchInstr_ok h
  rw [fetchAccesses_of_row hrow, List.length_map, List.length_map, List.length_range, Instr.length,
    fetchOperand_operandBytes hrow]

/-- The instruction bytes and the accesses of the execute phase: at most three and two, or two and three. -/
theorem length_add_execAccesses_le (instr : Instr) (s : State) :
    instr.length + (execAccesses instr s).length ≤ 5 := by
  cases instr <;> exact Nat.le_of_ble_eq_true rfl

/-- Settles O55: the fetch makes as many accesses as the instruction has bytes. -/
theorem stepMakesAtMostFiveAccesses : Obligations.StepMakesAtMostFiveAccesses := by
  intro s
  cases hfetch : fetchInstr s with
  | error e =>
    obtain ⟨hrow, -, -⟩ := fetchInstr_error hfetch
    rw [stepAccesses_of_unassigned hrow, fetchAccesses_of_unassigned hrow]
    simp
  | ok p =>
    rw [stepAccesses_of_fetched hfetch, List.length_append, fetchAccesses_length hfetch]
    exact length_add_execAccesses_le p.1 p.2

/-! ### The execute phase over another memory -/

/-- The registers and flags of `s` over the memory `m`. -/
def State.withMem (s : State) (m : Memory) : State :=
  { s with mem := m }

/-- The memory `m` reads as the state's memory does at the addresses of a list. -/
def Memory.AgreesAt (m : Memory) (s : State) (addrs : List Word) : Prop :=
  ∀ addr ∈ addrs, m.readCell addr.toNat = s.memRead addr

@[simp] theorem Memory.agreesAt_nil (m : Memory) (s : State) : m.AgreesAt s [] :=
  List.forall_mem_nil _

@[simp] theorem Memory.agreesAt_cons (m : Memory) (s : State) (addr : Word) (addrs : List Word) :
    m.AgreesAt s (addr :: addrs) ↔ m.readCell addr.toNat = s.memRead addr ∧ m.AgreesAt s addrs :=
  List.forall_mem_cons

@[simp] theorem Memory.agreesAt_append (m : Memory) (s : State) (addrs addrs' : List Word) :
    m.AgreesAt s (addrs ++ addrs') ↔ m.AgreesAt s addrs ∧ m.AgreesAt s addrs' :=
  List.forall_mem_append

@[simp] theorem withMem_pc (s : State) (m : Memory) : (s.withMem m).pc = s.pc := rfl
@[simp] theorem withMem_sp (s : State) (m : Memory) : (s.withMem m).sp = s.sp := rfl
@[simp] theorem withMem_a (s : State) (m : Memory) : (s.withMem m).a = s.a := rfl
@[simp] theorem withMem_c (s : State) (m : Memory) : (s.withMem m).c = s.c := rfl
@[simp] theorem withMem_mem (s : State) (m : Memory) : (s.withMem m).mem = m := rfl
@[simp] theorem pushedStatus_withMem (s : State) (m : Memory) : pushedStatus (s.withMem m) = pushedStatus s := rfl

@[simp] theorem memRead_withMem (s : State) (m : Memory) (addr : Word) :
    (s.withMem m).memRead addr = m.readCell addr.toNat := rfl

section Agreement

variable {instr : Instr} {s : State} {m : Memory}

theorem Memory.AgreesAt.memRead_eq {addrs : List Word} (h : m.AgreesAt s addrs) {addr : Word} (haddr : addr ∈ addrs) :
    (s.withMem m).memRead addr = s.memRead addr :=
  h addr haddr

theorem agreesAt_pointerAccesses (h : m.AgreesAt s (readAddrs (execAccesses instr s))) :
    m.AgreesAt s (readAddrs (pointerAccesses instr s)) := by
  rw [execAccesses, readAddrs_append, Memory.agreesAt_append] at h
  exact h.1

theorem agreesAt_dataAccesses (h : m.AgreesAt s (readAddrs (execAccesses instr s))) :
    m.AgreesAt s (readAddrs (dataAccesses instr s)) := by
  rw [execAccesses, readAddrs_append, Memory.agreesAt_append] at h
  exact h.2

theorem zpPointer_withMem {ptr : Byte} (h : m.AgreesAt s (readAddrs (zpPointerAccesses ptr))) :
    zpPointer ptr (s.withMem m) = zpPointer ptr s := by
  rw [zpPointer, h.memRead_eq (.head _), h.memRead_eq (.tail _ (.head _)), zpPointer]

theorem jmpIndTarget_withMem {ptr : Word} (h : m.AgreesAt s (readAddrs (execAccesses (.jmpInd ptr) s))) :
    jmpIndTarget ptr (s.withMem m) = jmpIndTarget ptr s := by
  rw [jmpIndTarget, h.memRead_eq (.head _), h.memRead_eq (.tail _ (.head _)), jmpIndTarget]

theorem pullWord_fst_withMem (h : m.AgreesAt s (readAddrs (execAccesses .rts s))) :
    (s.withMem m).pullWord.1 = s.pullWord.1 := by
  have hbytes : m.AgreesAt s [stackAddr (s.sp + 1), stackAddr (s.sp + 2)] := h
  have hsp : s.sp + 1 + 1 = s.sp + 2 := BitVec.add_assoc _ _ _
  rw [pullWord_fst, pullWord_fst, withMem_sp, hsp, hbytes.memRead_eq (.head _), hbytes.memRead_eq (.tail _ (.head _))]

/-- The effective address comes from the registers and the pointer bytes. -/
theorem effectiveAddress_withMem (h : m.AgreesAt s (readAddrs (execAccesses instr s))) :
    effectiveAddress instr (s.withMem m) = effectiveAddress instr s := by
  have hptr := agreesAt_pointerAccesses h
  unfold effectiveAddress
  unfold pointerAccesses at hptr
  generalize instr.view.mode = mode, instr.view.operand = operand at hptr
  cases mode <;> cases operand <;> first
    | rfl
    | exact congrArg some (zpPointer_withMem hptr)
    | exact congrArg (fun p => some (p + s.y.setWidth 16)) (zpPointer_withMem hptr)

theorem execAccesses_withMem (h : m.AgreesAt s (readAddrs (execAccesses instr s))) :
    execAccesses instr (s.withMem m) = execAccesses instr s := by
  unfold execAccesses dataAccesses
  rw [effectiveAddress_withMem h]
  rfl

theorem readOperand_withMem {e : Byte → State → State} (heff : readEffect instr.op = some e)
    (h : m.AgreesAt s (readAddrs (execAccesses instr s))) : readOperand instr (s.withMem m) = readOperand instr s := by
  have hdata := agreesAt_dataAccesses h
  rw [dataAccesses_of_reading heff, readAddrs_map_read] at hdata
  unfold readOperand
  rw [effectiveAddress_withMem h]
  split
  · rfl
  · exact Option.map_congr fun ea hea => hdata.memRead_eq (by simpa using hea)

/-- A read-modify-write reads the byte that it is to change. -/
theorem readCell_of_modifying {f : Transform} (heff : modifyEffect instr.op = some f) {ea : Word}
    (hea : effectiveAddress instr s = some ea) (h : m.AgreesAt s (readAddrs (execAccesses instr s))) :
    m.readCell ea.toNat = s.memRead ea := by
  have hdata := agreesAt_dataAccesses h
  rw [dataAccesses_of_modifying heff hea] at hdata
  exact hdata ea (.head _)

theorem readEffect_sameRegisters {op : Op} {e : Byte → State → State} (heff : readEffect op = some e) (v : Byte)
    (s : State) (m : Memory) : SameRegisters (e v (s.withMem m)) (e v s) := by
  cases op <;> cases heff <;> rfl

theorem storeEffect_withMem {op : Op} {r : State → Byte} (heff : storeEffect op = some r) (s : State) (m : Memory) :
    r (s.withMem m) = r s := by
  cases op <;> cases heff <;> rfl

theorem branchEffect_withMem {op : Op} {taken : State → Bool} (heff : branchEffect op = some taken) (s : State)
    (m : Memory) : taken (s.withMem m) = taken s := by
  cases op <;> cases heff <;> rfl

theorem branchIf_sameRegisters (taken : Bool) (off : Byte) (s : State) (m : Memory) :
    SameRegisters (branchIf taken off (s.withMem m)) (branchIf taken off s) := by
  cases taken <;> rfl

theorem modifyMem_sameRegisters {f : Transform} {ea : Word} (h : m.readCell ea.toNat = s.memRead ea) :
    SameRegisters (modifyMem f ea (s.withMem m)) (modifyMem f ea s) := by
  simp only [SameRegisters, modifyMem, memRead_withMem, h]
  rfl

/-- JMP (ind), PLA, PLP and RTS take bytes that their access lists read; the other operations in no group take none. -/
theorem ownEffect_sameRegisters {e : State → State} (heff : ownEffect instr = some e)
    (h : m.AgreesAt s (readAddrs (execAccesses instr s))) : SameRegisters (e (s.withMem m)) (e s) := by
  cases instr
  case jmpInd ptr =>
    cases heff
    exact congrArg (fun pc => { s with pc := pc, mem := [] }) (jmpIndTarget_withMem h)
  case pla =>
    cases heff
    exact congrArg (fun v => { loadA v s.pull.2 with mem := [] }) (h.memRead_eq (.head _))
  case plp =>
    cases heff
    exact congrArg (fun p => { unpack p s.pull.2 with mem := [] }) (h.memRead_eq (.head _))
  case rts =>
    cases heff
    exact congrArg (fun pc => { s.pullWord.2 with pc := pc, mem := [] }) (pullWord_fst_withMem h)
  all_goals cases heff <;> rfl

theorem pushWord_agreesAt (s : State) (m : Memory) (w : Word) :
    ((s.withMem m).pushWord w).mem.AgreesAt (s.pushWord w) [stackAddr s.sp, stackAddr (s.sp - 1)] := by
  intro addr haddr
  rw [← memRead_eq, memRead_pushWord, memRead_pushWord]
  rcases List.mem_pair.mp haddr with rfl | rfl <;> simp

/-- PHA, PHP and JSR store registers; the other operations in no group store nothing. -/
theorem ownEffect_agreesAt {e : State → State} (heff : ownEffect instr = some e) (s : State) (m : Memory) :
    (e (s.withMem m)).mem.AgreesAt (e s) (writeAddrs (execAccesses instr s)) := by
  cases instr
  case jsr target =>
    cases heff
    rw [writeAddrs_of_jsr rfl]
    exact pushWord_agreesAt s m s.pc
  case pha | php =>
    cases heff
    rw [writeAddrs_of_push (by decide)]
    simp [memRead_push]
  all_goals cases heff <;> exact Memory.agreesAt_nil _ _

/-- Executed over a memory that agrees on the bytes the instruction reads, it completes with the same registers and the
same bytes stored. -/
theorem ExecResult.over_agreeing_memory {t : State} (h : ExecResult instr s t)
    (hm : m.AgreesAt s (readAddrs (execAccesses instr s))) :
    ∃ t', ExecResult instr (s.withMem m) t' ∧ SameRegisters t' t ∧
      t'.mem.AgreesAt t (writeAddrs (execAccesses instr s)) := by
  have hwrite := writeAddrs_execAccesses instr s
  have hea' := effectiveAddress_withMem hm
  cases h with
  | reading heff hv =>
    refine ⟨_, .reading heff ((readOperand_withMem heff hm).trans hv), readEffect_sameRegisters heff _ s m, ?_⟩
    rw [hwrite, dataAccesses_of_reading heff, writeAddrs_map_read]
    exact Memory.agreesAt_nil _ _
  | storing heff hea =>
    refine ⟨_, .storing heff (hea'.trans hea), rfl, ?_⟩
    rw [hwrite, dataAccesses_of_storing heff hea]
    simp [writeAddrs, memRead_memWrite, storeEffect_withMem heff]
  | modifyingAcc heff hmode =>
    refine ⟨_, .modifyingAcc heff hmode, rfl, ?_⟩
    rw [hwrite, dataAccesses_of_modifyingAcc hmode]
    exact Memory.agreesAt_nil _ _
  | modifyingMem heff hmode hea =>
    have hbyte := readCell_of_modifying heff hea hm
    refine ⟨_, .modifyingMem heff hmode (hea'.trans hea), modifyMem_sameRegisters hbyte, ?_⟩
    rw [hwrite, dataAccesses_of_modifying heff hea]
    simp [writeAddrs, memRead_modifyMem, hbyte]
  | branching heff hoff =>
    refine ⟨_, .branching heff hoff, ?_, ?_⟩
    · rw [branchEffect_withMem heff]
      exact branchIf_sameRegisters _ _ _ _
    · rw [hwrite, dataAccesses_of_branching heff]
      exact Memory.agreesAt_nil _ _
  | own heff => exact ⟨_, .own heff, ownEffect_sameRegisters heff hm, ownEffect_agreesAt heff s m⟩

/-- The whole outcome of the execute phase over such a memory, BRK included. -/
theorem exec_over_agreeing_memory (hm : m.AgreesAt s (readAddrs (execAccesses instr s))) :
    mapOutcome (fun t => { t with mem := [] }) (exec instr (s.withMem m)) =
        mapOutcome (fun t => { t with mem := [] }) (exec instr s) ∧
      ∀ t t', exec instr s = .next t → exec instr (s.withMem m) = .next t' →
        t'.mem.AgreesAt t (writeAddrs (execAccesses instr s)) := by
  rcases execResult_or_brk instr s with ⟨t, hexec, hres⟩ | rfl
  · obtain ⟨t', hres', hregs, hbytes⟩ := hres.over_agreeing_memory hm
    rw [hexec, exec_of_execResult hres']
    refine ⟨congrArg Host.Outcome.next hregs, fun _ _ ht ht' => ?_⟩
    cases ht
    cases ht'
    exact hbytes
  · exact ⟨rfl, fun _ _ ht => by cases ht⟩

/-! ### The step over another memory -/

/-- The opcode is read whatever it is. -/
theorem pc_mem_readAddrs_fetchAccesses (s : State) : s.pc ∈ readAddrs (fetchAccesses s) := by
  unfold fetchAccesses
  split <;> exact .head _

theorem opcode_withMem (h : m.AgreesAt s (readAddrs (fetchAccesses s))) :
    (s.withMem m).memRead (s.withMem m).pc = s.memRead s.pc :=
  h.memRead_eq (pc_mem_readAddrs_fetchAccesses s)

theorem fetchAccesses_withMem (h : m.AgreesAt s (readAddrs (fetchAccesses s))) :
    fetchAccesses (s.withMem m) = fetchAccesses s := by
  unfold fetchAccesses
  rw [opcode_withMem h, withMem_pc]

/-- The instruction fetched comes from the bytes that the fetch reads. -/
theorem fetchInstr_withMem {u : State} (hfetch : fetchInstr s = .ok (instr, u))
    (h : m.AgreesAt s (readAddrs (fetchAccesses s))) : fetchInstr (s.withMem m) = .ok (instr, u.withMem m) := by
  obtain ⟨row, hrow, -, -⟩ := fetchInstr_ok hfetch
  rw [fetchInstr_of_row hrow] at hfetch
  rw [fetchInstr_of_row ((congrArg decodeOpcode (opcode_withMem h)).trans hrow)]
  cases row with
  | op0 _ =>
    cases hfetch
    rfl
  | op1 mk =>
    have hbytes : m.AgreesAt s [s.pc, s.pc + 1] := by
      rw [fetchAccesses, hrow] at h
      exact h
    have ho := hbytes (s.pc + 1) (by simp)
    cases hfetch
    exact congrArg (fun o => Except.ok (mk o, { s with pc := s.pc + 1 + 1, mem := m })) ho
  | op2 mk =>
    have hbytes : m.AgreesAt s [s.pc, s.pc + 1, s.pc + 1 + 1] := by
      rw [fetchAccesses, hrow] at h
      rw [BitVec.add_assoc]
      exact h
    have hlo := hbytes (s.pc + 1) (by simp)
    have hhi := hbytes (s.pc + 1 + 1) (by simp)
    cases hfetch
    exact congrArg₂ (fun lo hi => Except.ok (mk (wordOf hi lo), { s with pc := s.pc + 1 + 1 + 1, mem := m })) hlo hhi

/-- The same bytes are fetched, so the same instruction runs, and it reads the same bytes. -/
theorem step_over_agreeing_memory (h : m.AgreesAt s (readAddrs (stepAccesses s))) :
    stepAccesses (s.withMem m) = stepAccesses s ∧
      mapOutcome (fun t => { t with mem := [] }) (step (s.withMem m)) =
        mapOutcome (fun t => { t with mem := [] }) (step s) ∧
      ∀ t t', step s = .next t → step (s.withMem m) = .next t' →
        t'.mem.AgreesAt t (writeAddrs (stepAccesses s)) := by
  cases hfetch : fetchInstr s with
  | error e =>
    obtain ⟨hrow, -, -⟩ := fetchInstr_error hfetch
    rw [stepAccesses_of_unassigned hrow] at h ⊢
    have hopcode := opcode_withMem h
    have hrow' := (congrArg decodeOpcode hopcode).trans hrow
    rw [stepAccesses_of_unassigned hrow', step_of_unassigned hrow, step_of_unassigned hrow', hopcode]
    exact ⟨fetchAccesses_withMem h, rfl, fun _ _ ht => by cases ht⟩
  | ok p =>
    obtain ⟨instr, u⟩ := p
    rw [stepAccesses_of_fetched hfetch] at h ⊢
    rw [readAddrs_append, Memory.agreesAt_append] at h
    obtain ⟨hfetched, hread⟩ := h
    have hmem : u.mem = s.mem := by rw [fetchInstr_ok_state hfetch]
    have hread' : m.AgreesAt u (readAddrs (execAccesses instr u)) := fun addr haddr =>
      (hread addr haddr).trans (memRead_congr hmem addr).symm
    have hfetch' := fetchInstr_withMem hfetch hfetched
    rw [stepAccesses_of_fetched hfetch', step_of_fetched hfetch, step_of_fetched hfetch',
      fetchAccesses_withMem hfetched, execAccesses_withMem hread', writeAddrs_append, writeAddrs_fetchAccesses,
      List.nil_append]
    exact ⟨rfl, exec_over_agreeing_memory hread'⟩

end Agreement

/-- Settles O53, by the simulation of a step over a memory that agrees on the bytes it reads. -/
theorem stepDependsOnlyOnTheBytesItReads : Obligations.StepDependsOnlyOnTheBytesItReads :=
  fun _ _ h => step_over_agreeing_memory h

end Sys2Proof.Machine
end

section
/-! PROOFS. The encoding (30_encoding.md R50 to R56): what the decoder reads from a byte sequence, as a relation between a
row of the opcode map, its operand bytes and the instruction; from it the two halves of the round trip. Then the fetch
of a two-byte operand at the top of memory. -/

namespace Sys2Proof

/-! ### A row and its operand bytes -/

/-- The row of the opcode map, given these operand bytes in address order, is this instruction (R50, R52). -/
inductive Row.Completes : Row → List Byte → Instr → Prop
  | op0 (instr : Instr) : Completes (.op0 instr) [] instr
  | op1 (mk : Byte → Instr) (o : Byte) : Completes (.op1 mk) [o] (mk o)
  | op2 (mk : Word → Instr) (w : Word) : Completes (.op2 mk) [loByte w, hiByte w] (mk w)

theorem Row.completes_op2_wordOf (mk : Word → Instr) (hi lo : Byte) :
    (Row.op2 mk).Completes [lo, hi] (mk (wordOf hi lo)) := by
  simpa using Completes.op2 mk (wordOf hi lo)

/-- The encoder of Table A follows the rows of Table B. -/
theorem Row.Completes.encode_eq {opcode : Byte} {row : Row} {operand : List Byte} {instr : Instr}
    (hc : row.Completes operand instr) (h : decodeOpcode opcode = some row) : encode instr = opcode :: operand := by
  have henc := decodeOpcode_encodes h
  cases hc with
  | op0 => exact henc.1
  | op1 _ o => exact (henc o).1
  | op2 _ w => exact (henc w).1

/-- Every mnemonic and form of Table A stands in Table B, under the opcode byte that its encoding begins with. -/
theorem exists_row_of_encode (instr : Instr) :
    ∃ opcode row operand,
      encode instr = opcode :: operand ∧ decodeOpcode opcode = some row ∧ row.Completes operand instr := by
  cases instr <;> exact ⟨_, _, _, rfl, rfl, by constructor⟩

/-! ### What `decodeBytes` reads -/

/-- An assigned opcode and the operand bytes of its row decode, whatever follows. -/
theorem Row.Completes.decodeBytes_eq {opcode : Byte} {row : Row} {operand : List Byte} {instr : Instr}
    (hc : row.Completes operand instr) (h : decodeOpcode opcode = some row) (rest : List Byte) :
    decodeBytes (opcode :: operand ++ rest) = .ok (instr, rest) := by
  cases hc <;> simp [decodeBytes, h]

/-- Nothing else decodes. -/
theorem decodeBytes_ok {bytes rest : List Byte} {instr : Instr} (h : decodeBytes bytes = .ok (instr, rest)) :
    ∃ opcode row operand,
      bytes = opcode :: operand ++ rest ∧ decodeOpcode opcode = some row ∧ row.Completes operand instr := by
  cases bytes with
  | nil => cases h
  | cons opcode tail =>
    simp only [decodeBytes] at h
    split at h
    next => cases h
    next hrow =>
      cases h
      exact ⟨_, _, _, rfl, hrow, .op0 instr⟩
    next mk o _ hrow =>
      cases h
      exact ⟨_, _, _, rfl, hrow, .op1 mk o⟩
    next mk lo hi _ hrow =>
      cases h
      exact ⟨_, _, _, rfl, hrow, Row.completes_op2_wordOf mk hi lo⟩
    next => cases h

/-! ### The round trip -/

/-- Settles O1: the encoding is an opcode byte and the operand bytes of its row, and those decode to the instruction. -/
theorem decodeOfEncodeIsIdentity : Obligations.DecodeOfEncodeIsIdentity := by
  intro instr rest
  obtain ⟨opcode, row, operand, henc, hrow, hc⟩ := exists_row_of_encode instr
  rw [henc]
  exact hc.decodeBytes_eq hrow rest

/-- Settles O2: the bytes are an opcode byte and the operand bytes of its row, and so is the encoding. -/
theorem encodeOfDecodeIsIdentity : Obligations.EncodeOfDecodeIsIdentity := by
  intro bytes instr rest h
  obtain ⟨opcode, row, operand, rfl, hrow, hc⟩ := decodeBytes_ok h
  rw [hc.encode_eq hrow]

/-- Settles O3, by running the decoder on the ten words. -/
theorem tableWordsDecodeAsTabulated : Obligations.TableWordsDecodeAsTabulated := by
  unfold Obligations.TableWordsDecodeAsTabulated
  decide

end Sys2Proof

namespace Sys2Proof.Machine

/-! ### The fetch of a two-byte operand -/

/-- The low byte of the operand follows the opcode and the high byte follows the low one, modulo 65536 (R71, R73). -/
theorem fetchInstr_of_op2 {s : State} {mk : Word → Instr} (h : decodeOpcode (s.memRead s.pc) = some (.op2 mk)) :
    fetchInstr s = .ok (mk (wordOf (s.memRead (s.pc + 1 + 1)) (s.memRead (s.pc + 1))),
      { s with pc := s.pc + 1 + 1 + 1 }) := by
  rw [fetchInstr_of_row h]
  rfl

/-- Settles O51: the operand's addresses after the opcode's, computed at the two PCs. -/
theorem instructionBytesWrapAroundTheTop : Obligations.InstructionBytesWrapAroundTheTop := by
  intro s mk h
  rw [fetchInstr_of_op2 h]
  exact ⟨fun hpc => by rw [hpc]; rfl, fun hpc => by rw [hpc]; rfl⟩

end Sys2Proof.Machine
end

section
/-! PROOFS. The step (40_step_fetch_decode.md): the bytes that the fetch reads, the three outcomes of a step by the
opcode byte, the net effect of every step on SP and PC, and the runs. -/

namespace Sys2Proof.Machine

open Sys2Proof.Claims

/-! ### The bytes of the instruction (R71, R73) -/

/-- Reading memory does not depend on PC. -/
@[simp] theorem memRead_with_pc (s : State) (pc addr : Word) : { s with pc := pc }.memRead addr = s.memRead addr := rfl

/-- The fetch moves PC past the instruction and changes nothing else. -/
theorem fetchInstr_ok_pc {s u : State} {instr : Instr} (h : fetchInstr s = .ok (instr, u)) :
    u = { s with pc := s.pc + BitVec.ofNat 16 instr.length } := by
  obtain ⟨row, hrow, rfl, rfl⟩ := fetchInstr_ok h
  rw [Instr.length, fetchOperand_operandBytes hrow]

/-- The fetch completes the row with the operand bytes from PC on. -/
theorem fetchOperand_completes (row : Row) (s : State) :
    row.Completes ((List.range row.operandBytes).map fun k => s.memRead (s.pc + BitVec.ofNat 16 k))
      (fetchOperand row s).1 := by
  cases row with
  | op0 instr => exact .op0 instr
  | op1 mk => simpa [Row.operandBytes, fetchOperand, fetchByte] using Row.Completes.op1 mk (s.memRead s.pc)
  | op2 mk =>
    simpa [Row.operandBytes, fetchOperand, fetchByte, List.range_succ] using
      Row.completes_op2_wordOf mk (s.memRead (s.pc + 1)) (s.memRead s.pc)

/-- The encoding of the fetched instruction: its opcode, then the operand bytes, at the addresses from PC on. -/
theorem encode_of_fetched {s u : State} {instr : Instr} (h : fetchInstr s = .ok (instr, u)) :
    encode instr = (List.range instr.length).map fun k => s.memRead (s.pc + BitVec.ofNat 16 k) := by
  obtain ⟨row, hrow, rfl, -⟩ := fetchInstr_ok h
  rw [(fetchOperand_completes row _).encode_eq hrow, Instr.length, fetchOperand_operandBytes hrow]
  simp [List.range_succ_eq_map, Nat.add_comm 1, BitVec.ofNat_add, BitVec.add_assoc, BitVec.add_comm 1#16]

theorem fetchAccesses_of_fetched {s u : State} {instr : Instr} (h : fetchInstr s = .ok (instr, u)) :
    fetchAccesses s = (List.range instr.length).map fun k => Access.read (s.pc + BitVec.ofNat 16 k) := by
  obtain ⟨row, hrow, rfl, -⟩ := fetchInstr_ok h
  rw [fetchAccesses_of_row hrow, List.map_map, Instr.length, fetchOperand_operandBytes hrow]
  rfl

/-- Settles O52: what a fetch that delivers an instruction reads, and that an unassigned opcode takes no operand. -/
theorem fetchReadsExactlyTheInstructionBytes : Obligations.FetchReadsExactlyTheInstructionBytes := by
  refine fun s => ⟨fun instr t h => ⟨fetchInstr_ok_pc h, encode_of_fetched h, fetchAccesses_of_fetched h⟩, ?_⟩
  intro opcode t h
  obtain ⟨hrow, hopcode, -⟩ := fetchInstr_error h
  exact ⟨hopcode, fetchAccesses_of_unassigned hrow⟩

/-- The decoder of byte sequences, given the three bytes from PC, reads the instruction that the fetch delivers. -/
theorem decodeBytes_of_row {s : State} {row : Row} (h : decodeOpcode (s.memRead s.pc) = some row) :
    decodeBytes [s.memRead s.pc, s.memRead (s.pc + 1), s.memRead (s.pc + 2)] =
      .ok ((fetchOperand row { s with pc := s.pc + 1 }).1,
        [s.memRead (s.pc + 1), s.memRead (s.pc + 2)].drop row.operandBytes) := by
  cases row <;> simp [decodeBytes, h, fetchOperand, fetchByte, Row.operandBytes, BitVec.add_assoc]

theorem decodeBytes_of_unassigned {opcode : Byte} (h : decodeOpcode opcode = none) (rest : List Byte) :
    decodeBytes (opcode :: rest) = .error (.unassigned opcode) := by
  simp [decodeBytes, h]

/-- Settles O48: the two decoders read the same instruction from the bytes at PC, and the step executes it. -/
theorem stepRunsTheDecodedInstruction : Obligations.StepRunsTheDecodedInstruction := by
  intro s instr rest hdec
  cases hrow : decodeOpcode (s.memRead s.pc) with
  | none => simp [decodeBytes_of_unassigned hrow] at hdec
  | some row =>
    rw [decodeBytes_of_row hrow] at hdec
    obtain ⟨rfl, -⟩ := Prod.mk.inj (Except.ok.inj hdec)
    have hfetch := fetchInstr_of_row hrow
    rw [step_of_fetched hfetch]
    exact congrArg _ (fetchInstr_ok_pc hfetch)

/-! ### The three outcomes of a step (R76, R77) -/

/-- The bytes of a list as the set bits of one number, so that lists of bytes are compared by arithmetic. -/
def bitsOf (bytes : List Byte) : Nat :=
  bytes.foldr (fun b bits => 2 ^ b.toNat ||| bits) 0

theorem testBit_bitsOf (bytes : List Byte) (b : Byte) : (bitsOf bytes).testBit b.toNat = decide (b ∈ bytes) := by
  induction bytes with
  | nil => simp [bitsOf]
  | cons v rest ih =>
    have hcons : bitsOf (v :: rest) = 2 ^ v.toNat ||| bitsOf rest := rfl
    simp [hcons, ih, Nat.testBit_or, Nat.testBit_two_pow, ← BitVec.toNat_inj, eq_comm]

/-- Each of the 256 bytes is in Table B or in R54's list, and none is in both. -/
theorem bitsOf_opcodeMap_xor_unassigned :
    bitsOf (opcodeMap.map Prod.fst) ^^^ bitsOf unassignedOpcodes = 2 ^ 256 - 1 := by
  simp [bitsOf, opcodeMap, opcodeRow0, opcodeRow1, opcodeRow2, opcodeRow3, opcodeRow4, opcodeRow5, opcodeRow6,
    opcodeRow7, opcodeRow8, opcodeRow9, opcodeRowA, opcodeRowB, opcodeRowC, opcodeRowD, opcodeRowE, opcodeRowF,
    unassignedOpcodes, unassignedLow, unassignedHigh]

theorem decodeOpcode_eq_none_iff_not_mem (opcode : Byte) :
    decodeOpcode opcode = none ↔ opcode ∉ opcodeMap.map Prod.fst := by
  simp only [decodeOpcode, Option.map_eq_none_iff, List.find?_eq_none, beq_iff_eq, List.mem_map, not_exists, not_and]

/-- R54's list is the complement of Table B. -/
theorem decodeOpcode_eq_none_iff (opcode : Byte) : decodeOpcode opcode = none ↔ opcode ∈ unassignedOpcodes := by
  have hbit := congrArg (Nat.testBit · opcode.toNat) bitsOf_opcodeMap_xor_unassigned
  simp only [Nat.testBit_xor, testBit_bitsOf, Nat.testBit_two_pow_sub_one, opcode.isLt, decide_true] at hbit
  rw [decodeOpcode_eq_none_iff_not_mem]
  by_cases hu : opcode ∈ unassignedOpcodes <;> simpa [hu] using hbit

/-- BRK rolls PC back onto its own byte, so the step ends in the state it began in (R200, D10). -/
theorem step_of_brk_opcode {s : State} (h : s.memRead s.pc = 0x00) : step s = .fault (.brk s) := by
  have hrow : decodeOpcode (s.memRead s.pc) = some (.op0 .brk) := by
    rw [h]
    rfl
  rw [step_of_row hrow]
  simp [fetchOperand, exec, execBrk, raiseCondition_eq]

/-- No other byte is fetched as BRK. -/
theorem opcode_of_fetched_brk {s u : State} (h : fetchInstr s = .ok (.brk, u)) : s.memRead s.pc = 0x00 := by
  have hbytes : [0x00] = [s.memRead (s.pc + BitVec.ofNat 16 0)] := encode_of_fetched h
  simpa using hbytes.symm

/-- Each of the three outcomes, with the opcode bytes that have it. -/
theorem step_cases (s : State) :
    (s.memRead s.pc = 0x00 ∧ step s = .fault (.brk s)) ∨
      (s.memRead s.pc ∈ unassignedOpcodes ∧ step s = .fault (.illegalOpcode (s.memRead s.pc) s)) ∨
      (s.memRead s.pc ≠ 0x00 ∧ s.memRead s.pc ∉ unassignedOpcodes ∧ ∃ t, step s = .next t) := by
  by_cases hbrk : s.memRead s.pc = 0x00
  · exact .inl ⟨hbrk, step_of_brk_opcode hbrk⟩
  by_cases hun : s.memRead s.pc ∈ unassignedOpcodes
  · exact .inr (.inl ⟨hun, step_of_unassigned ((decodeOpcode_eq_none_iff _).mpr hun)⟩)
  refine .inr (.inr ⟨hbrk, hun, ?_⟩)
  cases hfetch : fetchInstr s with
  | error e => exact absurd ((decodeOpcode_eq_none_iff _).mp (fetchInstr_error hfetch).1) hun
  | ok p =>
    obtain ⟨instr, u⟩ := p
    rcases execResult_or_brk instr u with ⟨t, hexec, -⟩ | rfl
    · exact ⟨t, (step_of_fetched hfetch).trans hexec⟩
    · exact absurd (opcode_of_fetched_brk hfetch) hbrk

/-- Settles O50: the byte 0x00 is not in R54's list, so the three cases of the step exclude each other. -/
theorem opcodeByteDecidesTheOutcome : Obligations.OpcodeByteDecidesTheOutcome := by
  intro s
  have hbrk : (0x00 : Byte) ∉ unassignedOpcodes := by decide
  rcases step_cases s with ⟨hop, hstep⟩ | ⟨hop, hstep⟩ | ⟨hne, hop, t, hstep⟩
  · simpa [hstep, hop] using hbrk
  · have hne : s.memRead s.pc ≠ 0x00 := fun h => hbrk (h ▸ hop)
    simpa [hstep, hop] using hne
  · simpa [hstep, hop] using hne

/-- A fault carries the state that the step began in (R77, R211). -/
theorem halted_of_step_fault {s : State} {f : Fault} (h : step s = .fault f) : f.halted = s := by
  rcases step_cases s with ⟨-, hstep⟩ | ⟨-, hstep⟩ | ⟨-, -, t, hstep⟩
  · cases hstep.symm.trans h
    rfl
  · cases hstep.symm.trans h
    rfl
  · cases hstep.symm.trans h

/-- Settles O49: the next step starts in the same state, so it ends alike. -/
theorem haltingChangesNothingAndRepeats : Obligations.HaltingChangesNothingAndRepeats := by
  intro s f h
  have hhalted := halted_of_step_fault h
  exact ⟨hhalted, by rw [resumeFrom, hhalted, h]⟩

/-! ### The net effect on SP (R75) -/

/-- The reading, storing and modifying operations, which move neither SP nor PC. -/
def isDataOp (op : Op) : Bool :=
  (readEffect op).isSome || (storeEffect op).isSome || (modifyEffect op).isSome

theorem isDataOp_of_reading {op : Op} {e : Byte → State → State} (h : readEffect op = some e) : isDataOp op := by
  simp [isDataOp, h]

theorem isDataOp_of_storing {op : Op} {r : State → Byte} (h : storeEffect op = some r) : isDataOp op := by
  simp [isDataOp, h]

theorem isDataOp_of_modifying {op : Op} {f : Transform} (h : modifyEffect op = some f) : isDataOp op := by
  simp [isDataOp, h]

/-- What a reading operation does with its operand byte moves neither PC nor SP. -/
theorem readEffect_pc_sp {op : Op} {e : Byte → State → State} (h : readEffect op = some e) (m : Byte) (s : State) :
    (e m s).pc = s.pc ∧ (e m s).sp = s.sp := by
  cases op <;> cases h <;> simp [loadA, loadX, loadY, andA, eorA, oraA, cmpA, cmpX, cmpY, subWithCarry]

theorem branchIf_sp (taken : Bool) (off : Byte) (s : State) : (branchIf taken off s).sp = s.sp := by
  cases taken <;> rfl

theorem nextSp_of_isDataOp {op : Op} (h : isDataOp op) (s : State) : nextSp op s = s.sp := by
  cases op <;> cases h <;> rfl

theorem nextSp_of_branching {op : Op} {taken : State → Bool} (h : branchEffect op = some taken) (s : State) :
    nextSp op s = s.sp := by
  cases op <;> cases h <;> rfl

theorem ownEffect_sp {instr : Instr} {e : State → State} (h : ownEffect instr = some e) (s : State) :
    (e s).sp = nextSp instr.op s := by
  cases instr <;> cases h <;>
    simp [nextSp, Instr.op, Instr.view, loadA, loadX, loadY, callSubroutine, returnFromSubroutine, sub_sub,
      BitVec.add_assoc]

theorem ExecResult.sp {instr : Instr} {s t : State} (h : ExecResult instr s t) : t.sp = nextSp instr.op s := by
  cases h with
  | reading heff => rw [(readEffect_pc_sp heff _ s).2, nextSp_of_isDataOp (isDataOp_of_reading heff)]
  | storing heff => rw [memWrite_sp, nextSp_of_isDataOp (isDataOp_of_storing heff)]
  | modifyingAcc heff => rw [modifyAcc_sp, nextSp_of_isDataOp (isDataOp_of_modifying heff)]
  | modifyingMem heff => rw [modifyMem_sp, nextSp_of_isDataOp (isDataOp_of_modifying heff)]
  | branching heff => rw [branchIf_sp, nextSp_of_branching heff]
  | own heff => exact ownEffect_sp heff s

/-- Settles O46: the fetch keeps SP and X, and each group of operations moves SP as R75 lists it. -/
theorem stackPointerSequencing : Obligations.StackPointerSequencing := by
  refine fun s => ⟨fun instr u t hfetch hstep => ?_, fun f h => by rw [halted_of_step_fault h]⟩
  rw [step_of_fetched hfetch] at hstep
  rw [(execResult_of_exec hstep).sp, fetchInstr_ok_pc hfetch]
  rfl

/-! ### The net effect on PC (R74) -/

/-- `s` as the execute phase of `instr` finds it, with PC past the instruction (R73). -/
def State.pastInstr (s : State) (instr : Instr) : State :=
  { s with pc := s.pc + BitVec.ofNat 16 instr.length }

theorem nextPc_of_isDataOp {instr : Instr} (h : isDataOp instr.op) (s : State) :
    nextPc instr s = (s.pastInstr instr).pc := by
  cases instr <;> cases h <;> rfl

/-- The target in the integers of R162: the address after the two bytes of the branch, plus the signed offset. -/
theorem relTarget_add_two (pc : Word) (off : Byte) :
    relTarget (pc + 2) off = BitVec.ofInt 16 (pc.toNat + 2 + off.toInt) := by
  rw [BitVec.ofInt_add, BitVec.ofInt_add, BitVec.ofInt_natCast, BitVec.ofNat_toNat, BitVec.setWidth_eq]
  rfl

/-- The fetch does not change the flag that a branch tests. -/
theorem branchTaken_of_branching {op : Op} {taken : State → Bool} (h : branchEffect op = some taken) (s : State)
    (instr : Instr) : branchTaken op s = some (taken (s.pastInstr instr)) := by
  cases op <;> cases h <;> rfl

theorem length_of_branching {instr : Instr} {taken : State → Bool} (h : branchEffect instr.op = some taken) :
    instr.length = 2 := by
  cases instr <;> cases h <;> rfl

/-- The two rows of the branches in R74's table; the row of RTS, which has none of their operands, does not apply. -/
theorem nextPc_of_branchTaken {instr : Instr} {s : State} {taken : Bool} {off : Byte}
    (h : branchTaken instr.op s = some taken) (hoff : instr.view.operand = .byte off) :
    nextPc instr s =
      if taken then BitVec.ofInt 16 (s.pc.toNat + 2 + off.toInt) else (s.pastInstr instr).pc := by
  have hrts : instr.op ≠ .rts := fun hop => by simp [hop, branchTaken] at h
  cases taken <;> simp [nextPc, hoff, h, State.pastInstr]

theorem branchIf_pc {instr : Instr} {taken : State → Bool} {off : Byte} (h : branchEffect instr.op = some taken)
    (hoff : instr.view.operand = .byte off) (s : State) :
    (branchIf (taken (s.pastInstr instr)) off (s.pastInstr instr)).pc = nextPc instr s := by
  rw [nextPc_of_branchTaken (branchTaken_of_branching h s instr) hoff]
  cases taken (s.pastInstr instr) with
  | false => rfl
  | true => simp [branchIf, State.pastInstr, length_of_branching h, ← relTarget_add_two]

/-- Jumps, JSR and RTS have their rows in R74's table; the others leave PC past the instruction. -/
theorem ownEffect_pc {instr : Instr} {e : State → State} (h : ownEffect instr = some e) (s : State) :
    (e (s.pastInstr instr)).pc = nextPc instr s := by
  cases instr <;> cases h
  case rts => simp [returnFromSubroutine, State.pastInstr, nextPc, Instr.op, Instr.view, pullWord_fst, stackByte,
    BitVec.add_assoc]
  all_goals rfl

theorem ExecResult.pc {instr : Instr} {s t : State} (h : ExecResult instr (s.pastInstr instr) t) :
    t.pc = nextPc instr s := by
  cases h with
  | reading heff => rw [(readEffect_pc_sp heff _ _).1, nextPc_of_isDataOp (isDataOp_of_reading heff)]
  | storing heff => rw [memWrite_pc, nextPc_of_isDataOp (isDataOp_of_storing heff)]
  | modifyingAcc heff => rw [modifyAcc_pc, nextPc_of_isDataOp (isDataOp_of_modifying heff)]
  | modifyingMem heff => rw [modifyMem_pc, nextPc_of_isDataOp (isDataOp_of_modifying heff)]
  | branching heff hoff => exact branchIf_pc heff hoff s
  | own heff => exact ownEffect_pc heff s

/-- Settles O47: each group of operations leaves PC as R74's table says, a halt where the step began. -/
theorem programCounterSequencing : Obligations.ProgramCounterSequencing := by
  refine fun s => ⟨fun instr u t hfetch hstep => ?_, fun f h => by rw [halted_of_step_fault h]⟩
  rw [step_of_fetched hfetch, fetchInstr_ok_pc hfetch] at hstep
  exact (execResult_of_exec hstep).pc

/-! ### Runs (R78, R80) -/

theorem hostRun_of_next {s t : State} (h : step s = .next t) (n : Nat) : hostRun (n + 1) s = hostRun n t := by
  simp [hostRun, h]

theorem hostRun_of_fault {s : State} {f : Fault} (h : step s = .fault f) (n : Nat) :
    hostRun (n + 1) s = .fault f := by
  simp [hostRun, h]

/-- A run ends with the fault of the first step that halts, which carries the state that step began in. -/
theorem hostRun_fault_iff (bound : Nat) (s : State) (f : Fault) :
    hostRun bound s = .fault f ↔ ∃ k, k < bound ∧ hostRun k s = .next f.halted ∧ step f.halted = .fault f := by
  induction bound generalizing s with
  | zero => simp [hostRun]
  | succ n ih =>
    cases hstep : step s with
    | next t =>
      have hzero : ¬ (hostRun 0 s = .next f.halted ∧ step f.halted = .fault f) := by
        rintro ⟨hrun, hfault⟩
        obtain rfl := Host.Outcome.next.inj hrun
        simp [hstep] at hfault
      rw [hostRun_of_next hstep, ih, Nat.exists_lt_succ_left]
      simp only [hostRun_of_next hstep, hzero, false_or]
    | fault g =>
      rw [hostRun_of_fault hstep]
      constructor
      · intro h
        obtain rfl := Host.Outcome.fault.inj h
        have hhalted := halted_of_step_fault hstep
        exact ⟨0, n.succ_pos, by rw [hhalted]; rfl, by rw [hhalted, hstep]⟩
      · rintro ⟨k, -, hrun, hfault⟩
        cases k with
        | zero =>
          obtain rfl := Host.Outcome.next.inj hrun
          rw [← hstep, hfault]
        | succ k => simp [hostRun_of_fault hstep] at hrun
    | refused r => exact absurd hstep (step_not_refused s r)

/-- Settles O59, by induction on the bound. -/
theorem runEndsAtTheFirstHaltingCondition : Obligations.RunEndsAtTheFirstHaltingCondition :=
  hostRun_fault_iff

/-- A step that answers the state it began in can be repeated for ever. -/
theorem runsForever_of_step_self {s : State} (h : step s = .next s) : RunsForever s := by
  intro n
  refine ⟨s, ?_⟩
  induction n with
  | zero => rfl
  | succ n ih => rw [hostRun_of_next h, ih]

/-- Settles O60: the jump restores the PC that the fetch moved, so the step answers the state it began in. -/
theorem jumpToItselfRunsForever : Obligations.JumpToItselfRunsForever := by
  intro s hop hlo hhi
  apply runsForever_of_step_self
  have hdec : decodeBytes [s.memRead s.pc, s.memRead (s.pc + 1), s.memRead (s.pc + 2)] = .ok (.jmpAbs s.pc, []) := by
    rw [hop, hlo, hhi]
    exact decodeOfEncodeIsIdentity (.jmpAbs s.pc) []
  exact stepRunsTheDecodedInstruction s _ _ hdec

end Sys2Proof.Machine
end

section
/-! PROOFS. The address resolver (41_addressing_modes.md): the address of each operand form in plain numbers, the two
pointer reads and the branch target; and, for every instruction of a form, its operand, its address and its length. -/

namespace Sys2Proof.Machine

open Sys2Proof.Claims

/-! ### Addresses in plain numbers (R89 to R94) -/

theorem eaZp_toNat (o : Byte) : (eaZp o).toNat = o.toNat := by
  simp only [eaZp, BitVec.toNat_setWidth]
  omega

/-- A sum inside page zero, whose high byte is dropped. -/
theorem eaZp_add_toNat (o i : Byte) : (eaZp (o + i)).toNat = (o.toNat + i.toNat) % 256 := by
  rw [eaZp_toNat, BitVec.toNat_add]

/-- A sum over the whole address space. -/
theorem add_setWidth_toNat (w : Word) (i : Byte) : (w + i.setWidth 16).toNat = (w.toNat + i.toNat) % 65536 := by
  rw [BitVec.toNat_add]
  exact congrArg (fun k => (w.toNat + k) % 65536) (eaZp_toNat i)

/-! ### The pointers (R95 to R97, decisions D6 and D7) -/

theorem zpPointerHigh_wrap_toNat (ptr : Byte) : (zpPointerHigh true ptr).toNat = (ptr.toNat + 1) % 256 :=
  eaZp_add_toNat ptr 1

theorem zpPointerHigh_noWrap_toNat (ptr : Byte) : (zpPointerHigh false ptr).toNat = ptr.toNat + 1 := by
  have hsum : (zpPointerHigh false ptr).toNat = ((eaZp ptr).toNat + 1) % 65536 := BitVec.toNat_add _ _
  rw [hsum, eaZp_toNat]
  omega

/-- The pointer's word, both bytes inside page zero. -/
theorem zpPointer_toNat (ptr : Byte) (s : State) :
    (zpPointer ptr s).toNat =
      256 * (s.memRead (BitVec.ofNat 16 ((ptr.toNat + 1) % 256))).toNat +
        (s.memRead (BitVec.ofNat 16 ptr.toNat)).toNat := by
  rw [← zpPointerHigh_wrap_toNat, ← eaZp_toNat ptr, BitVec.ofNat_toNat, BitVec.ofNat_toNat, BitVec.setWidth_eq,
    BitVec.setWidth_eq, zpPointer, wordOf_toNat]
  rfl

/-- The two masks of R97 put the high byte of one word before the low byte of another. -/
theorem highMask_or_lowMask (w w' : Word) : w &&& 0xFF00 ||| w' &&& 0x00FF = wordOf (hiByte w) (loByte w') := by
  have hbytes (hi lo hi' lo' : Byte) : wordOf hi lo &&& 0xFF00 ||| wordOf hi' lo' &&& 0x00FF = wordOf hi lo' := by
    change (hi ++ lo) &&& (BitVec.allOnes 8 ++ 0#8) ||| (hi' ++ lo') &&& (0#8 ++ BitVec.allOnes 8) = hi ++ lo'
    simp only [BitVec.and_append, BitVec.or_append, BitVec.and_allOnes, BitVec.and_zero, BitVec.or_zero, BitVec.zero_or]
  simpa only [wordOf_hiByte_loByte] using hbytes (hiByte w) (loByte w) (hiByte w') (loByte w')

/-- The page of the pointer stays; its last address is followed by its first. -/
theorem jmpPointerHigh_wrap_toNat (ptr : Word) :
    (jmpPointerHigh true ptr).toNat = if ptr.toNat % 256 = 255 then ptr.toNat - 255 else ptr.toNat + 1 := by
  have hbytes : jmpPointerHigh true ptr = wordOf (hiByte ptr) (loByte (ptr + 1)) := highMask_or_lowMask ptr (ptr + 1)
  have hnext : (ptr + 1).toNat = (ptr.toNat + 1) % 65536 := BitVec.toNat_add ptr 1
  rw [hbytes, wordOf_toNat, hiByte_toNat, loByte_toNat, hnext]
  split <;> omega

/-- Settles O16: the target is the word of the bytes at the pointer and at the address after it inside its page. -/
theorem jumpIndirectKeepsInsideThePage : Obligations.JumpIndirectKeepsInsideThePage := by
  intro s ptr
  refine ⟨?_, BitVec.toNat_add ptr 1⟩
  rw [← jmpPointerHigh_wrap_toNat, BitVec.ofNat_toNat, BitVec.setWidth_eq, jmpIndTarget, wordOf_toNat]
  rfl

/-! ### The operand and the address of each form (R85 to R96) -/

/-- The address of the forms with a one-byte operand. -/
def byteFormAddress : Mode → Option (Byte → State → Word)
  | .zp => some fun o _ => eaZp o
  | .zpx => some eaZpx
  | .zpy => some eaZpy
  | .indx => some eaIndx
  | .indy => some eaIndy
  | _ => none

/-- The address of the forms with a two-byte operand. -/
def wordFormAddress : Mode → Option (Word → State → Word)
  | .abs => some fun w _ => eaAbs w
  | .absx => some eaAbsx
  | .absy => some eaAbsy
  | _ => none

theorem effectiveAddress_of_byteForm {instr : Instr} {mode : Mode} {f : Byte → State → Word} (hmode : instr.mode = mode)
    (hf : byteFormAddress mode = some f) (s : State) :
    ∃ o, instr.view.operand = .byte o ∧ effectiveAddress instr s = some (f o s) ∧ instr.length = 2 := by
  subst hmode
  cases instr <;> cases hf <;> exact ⟨_, rfl, rfl, rfl⟩

theorem effectiveAddress_of_wordForm {instr : Instr} {mode : Mode} {f : Word → State → Word} (hmode : instr.mode = mode)
    (hf : wordFormAddress mode = some f) (s : State) :
    ∃ w, instr.view.operand = .word w ∧ effectiveAddress instr s = some (f w s) ∧ instr.length = 3 := by
  subst hmode
  cases instr <;> cases hf <;> exact ⟨_, rfl, rfl, rfl⟩

/-- Table A of R53 has the form `zpy` in two rows. -/
theorem op_of_zpy {instr : Instr} (hmode : instr.mode = .zpy) : instr.op ∈ [.ldx, .stx] := by
  cases instr <;> cases hmode <;> simp [Instr.op, Instr.view]

/-- Settles O14: the address of each form, with its sum in plain numbers. -/
theorem directFormsComputeTheirAddress : Obligations.DirectFormsComputeTheirAddress := by
  refine fun instr s => ⟨fun hmode => ?zp, fun hmode => ?zpx, fun hmode => ?zpy, fun hmode => ?abs, fun hmode => ?absx,
    fun hmode => ?absy⟩
  case zp =>
    obtain ⟨o, ho, hea, hlen⟩ := effectiveAddress_of_byteForm hmode rfl s
    exact ⟨o, _, ho, hea, eaZp_toNat o, hlen⟩
  case zpx =>
    obtain ⟨o, ho, hea, hlen⟩ := effectiveAddress_of_byteForm hmode rfl s
    exact ⟨o, _, ho, hea, eaZp_add_toNat o s.x, hlen⟩
  case zpy =>
    obtain ⟨o, ho, hea, hlen⟩ := effectiveAddress_of_byteForm hmode rfl s
    exact ⟨o, _, ho, hea, eaZp_add_toNat o s.y, hlen, op_of_zpy hmode⟩
  case abs =>
    obtain ⟨w, hw, hea, hlen⟩ := effectiveAddress_of_wordForm hmode rfl s
    exact ⟨w, _, hw, hea, rfl, hlen⟩
  case absx =>
    obtain ⟨w, hw, hea, hlen⟩ := effectiveAddress_of_wordForm hmode rfl s
    exact ⟨w, _, hw, hea, add_setWidth_toNat w s.x, hlen⟩
  case absy =>
    obtain ⟨w, hw, hea, hlen⟩ := effectiveAddress_of_wordForm hmode rfl s
    exact ⟨w, _, hw, hea, add_setWidth_toNat w s.y, hlen⟩

/-- The index is added to the operand inside page zero, before the pointer is read. -/
theorem eaIndx_toNat (o : Byte) (s : State) :
    (eaIndx o s).toNat =
      256 * (s.memRead (BitVec.ofNat 16 ((o.toNat + s.x.toNat + 1) % 256))).toNat +
        (s.memRead (BitVec.ofNat 16 ((o.toNat + s.x.toNat) % 256))).toNat := by
  rw [eaIndx, zpPointer_toNat, BitVec.toNat_add, Nat.mod_add_mod]

/-- The index is added to the pointer's word, over the whole address space. -/
theorem eaIndy_toNat (o : Byte) (s : State) :
    (eaIndy o s).toNat =
      (256 * (s.memRead (BitVec.ofNat 16 ((o.toNat + 1) % 256))).toNat +
        (s.memRead (BitVec.ofNat 16 o.toNat)).toNat + s.y.toNat) % 65536 := by
  rw [eaIndy, add_setWidth_toNat, zpPointer_toNat]

/-- Settles O15: the addresses of the two pointer forms, and where the pointer's high byte is read for either value of
`ZP_POINTER_WRAP`. -/
theorem zeroPagePointerFormsComputeTheirAddress : Obligations.ZeroPagePointerFormsComputeTheirAddress := by
  refine ⟨fun instr s => ⟨fun hmode => ?indx, fun hmode => ?indy⟩,
    fun ptr => ⟨zpPointerHigh_wrap_toNat ptr, zpPointerHigh_noWrap_toNat ptr⟩⟩
  case indx =>
    obtain ⟨o, ho, hea, -⟩ := effectiveAddress_of_byteForm hmode rfl s
    exact ⟨o, _, ho, hea, eaIndx_toNat o s⟩
  case indy =>
    obtain ⟨o, ho, hea, -⟩ := effectiveAddress_of_byteForm hmode rfl s
    exact ⟨o, _, ho, hea, eaIndy_toNat o s⟩

/-! ### The operand byte (R85 to R88) -/

theorem readOperand_of_imm {instr : Instr} (hmode : instr.mode = .imm) (s : State) :
    ∃ m, instr.view.operand = .byte m ∧ readOperand instr s = some m ∧ effectiveAddress instr s = none ∧
      instr.length = 2 := by
  cases instr <;> cases hmode <;> exact ⟨_, rfl, rfl, rfl, rfl⟩

theorem readOperand_of_effectiveAddress {instr : Instr} {s : State} {ea : Word}
    (hea : effectiveAddress instr s = some ea) : readOperand instr s = some (s.memRead ea) := by
  have hmode : instr.mode ≠ .imm := fun hmode => by
    obtain ⟨-, -, -, hnone, -⟩ := readOperand_of_imm hmode s
    simp [hnone] at hea
  unfold readOperand
  split
  next himm _ => exact absurd himm hmode
  next => rw [hea, Option.map_some]

theorem readOperand_of_no_operandBytes {instr : Instr} (hbytes : instr.mode.operandBytes = 0) (s : State) :
    instr.view.operand = .absent ∧ readOperand instr s = none ∧ instr.length = 1 := by
  cases instr <;> cases hbytes <;> exact ⟨rfl, rfl, rfl⟩

/-- Settles O13: the immediate operand, else the byte at the address; no byte for the forms without operand bytes. -/
theorem readOperandDeliversTheByte : Obligations.ReadOperandDeliversTheByte := by
  refine fun instr s => ⟨fun hmode => readOperand_of_imm hmode s, fun _ => readOperand_of_effectiveAddress, ?_⟩
  intro hmode
  have hbytes : ∀ mode ∈ [Mode.imp, Mode.acc], mode.operandBytes = 0 := by decide
  exact readOperand_of_no_operandBytes (hbytes _ hmode) s

/-! ### The branch target (R98) -/

/-- The offset sign-extended to 16 bits is added to the address after the branch. -/
theorem relTarget_toNat (pc : Word) (off : Byte) :
    (relTarget pc off).toNat =
      (pc.toNat + (if off.toNat < 128 then off.toNat else off.toNat + 0xFF00)) % 65536 := by
  have hext : (off.signExtend 16).toNat = if off.toNat < 128 then off.toNat else off.toNat + 0xFF00 := by
    simp only [BitVec.toNat_signExtend, BitVec.msb_eq_decide, BitVec.toNat_setWidth, decide_eq_true_eq]
    split <;> split <;> omega
  rw [relTarget, BitVec.toNat_add, hext]

theorem relTarget_toNat_eq_add_toInt (pc : Word) (off : Byte) :
    ((relTarget pc off).toNat : Int) = (pc.toNat + off.toInt) % 65536 := by
  rw [relTarget_toNat, BitVec.toInt_eq_toNat_cond]
  split <;> split <;> omega

/-- Table A of R53 gives the relative form to the branches and to nothing else. -/
theorem mode_eq_rel_iff (instr : Instr) : instr.mode = .rel ↔ ∃ taken, branchEffect instr.op = some taken := by
  constructor
  · intro hmode
    cases instr <;> cases hmode <;> exact ⟨_, rfl⟩
  · rintro ⟨taken, heff⟩
    cases instr <;> cases heff <;> rfl

theorem branchEffect_eq_some_iff (op : Op) :
    (∃ taken, branchEffect op = some taken) ↔ op ∈ [.bcc, .bcs, .beq, .bne, .bmi, .bpl, .bvc, .bvs] := by
  rw [← Option.isSome_iff_exists]
  cases op <;> decide

theorem branchTaken_of_branchEffect {op : Op} {taken : State → Bool} (h : branchEffect op = some taken) (s : State) :
    branchTaken op s = some (taken s) := by
  cases op <;> cases h <;> rfl

/-- A branch writes PC and nothing else. -/
theorem branchIf_eq_with_pc (taken : Bool) (off : Byte) (s : State) :
    branchIf taken off s = { s with pc := if taken then relTarget s.pc off else s.pc } := by
  cases taken <;> rfl

/-- Settles O17: the target in both readings, the operations of the form, and the step at a fetched branch. -/
theorem relativeTargetIsSigned : Obligations.RelativeTargetIsSigned := by
  refine ⟨fun pc off => ⟨relTarget_toNat_eq_add_toInt pc off, relTarget_toNat pc off⟩, fun instr => ⟨?form, ?length⟩,
    fun s t instr hfetch hmode => ?step⟩
  case form => exact (mode_eq_rel_iff instr).trans (branchEffect_eq_some_iff instr.op)
  case length =>
    intro hmode
    obtain ⟨taken, heff⟩ := (mode_eq_rel_iff instr).mp hmode
    exact length_of_branching heff
  case step =>
    obtain ⟨taken, heff⟩ := (mode_eq_rel_iff instr).mp hmode
    obtain ⟨off, hoff, hexec⟩ := exec_branch heff t
    refine ⟨?_, off, taken t, hoff, branchTaken_of_branchEffect heff t, ?_⟩
    · rw [fetchInstr_ok_pc hfetch, length_of_branching heff]
      rfl
    · rw [step_of_fetched hfetch, hexec, branchIf_eq_with_pc]

end Sys2Proof.Machine
end

section
/-! PROOFS. The logical, bit-test and compare instructions (42_logic_bit_compare.md R100 to R107): the flags N, Z and V in
plain numbers, and what a reading instruction does by its operation alone. -/

namespace Sys2Proof.Machine

open Sys2Proof.Claims

/-! ### Bits of a byte and the flags they give (R17) -/

/-- A bit is set if the bits up to it make at least its weight. -/
theorem getLsbD_eq_decide_le_mod (m : Byte) (k : Nat) : m.getLsbD k = decide (2 ^ k ≤ m.toNat % 2 ^ (k + 1)) := by
  have hmsb : (m.setWidth (k + 1)).msb = m.getLsbD k := by simp [BitVec.msb_setWidth]
  rw [← hmsb, BitVec.msb_eq_decide, BitVec.toNat_setWidth, Nat.add_sub_cancel]

theorem getLsbD_seven_eq (m : Byte) : m.getLsbD 7 = decide (128 ≤ m.toNat) := by
  rw [getLsbD_eq_decide_le_mod, Nat.mod_eq_of_lt m.isLt]
  rfl

theorem setNZ_eq_withNZ (v : Byte) (s : State) : setNZ v s = withNZ v s := by
  have hz : decide (v = 0) = decide (v.toNat = 0) := decide_eq_decide.mpr BitVec.toNat_eq
  rw [setNZ, withNZ, getLsbD_seven_eq, hz]

/-! ### A reading instruction by its operation (R85) -/

/-- A reading instruction answers `u` of its operand byte, if that is what its operation makes of the state. -/
theorem exec_of_reading {instr : Instr} {op : Op} {e : Byte → State → State} {s : State} {u : Byte → State}
    (hop : instr.op = op) (heff : readEffect op = some e) (hu : ∀ m, e m s = u m) :
    ∃ m, readOperand instr s = some m ∧ exec instr s = .next (u m) := by
  obtain ⟨m, hread, hexec⟩ := exec_reading (hop ▸ heff) s
  exact ⟨m, hread, hu m ▸ hexec⟩

/-! ### Logic and BIT (R100 to R103) -/

/-- Settles O18: each of the three writes A and then `SetNZ` of the same byte. -/
theorem logicInstructionsCombineIntoA : Obligations.LogicInstructionsCombineIntoA :=
  fun _ s => ⟨fun hop => exec_of_reading hop rfl fun m => setNZ_eq_withNZ (s.a &&& m) _,
    fun hop => exec_of_reading hop rfl fun m => setNZ_eq_withNZ (s.a ^^^ m) _,
    fun hop => exec_of_reading hop rfl fun m => setNZ_eq_withNZ (s.a ||| m) _⟩

theorem bitTest_eq (m : Byte) (s : State) :
    bitTest m s = { s with
      z := decide (s.a &&& m = 0), n := decide (128 ≤ m.toNat), v := decide (64 ≤ m.toNat % 128) } := by
  rw [bitTest, getLsbD_seven_eq, getLsbD_eq_decide_le_mod m 6]
  rfl

/-- Settles O19: bits 7 and 6 of the operand in plain numbers. -/
theorem bitTestReadsFlagsFromMemory : Obligations.BitTestReadsFlagsFromMemory :=
  fun _ s hop => exec_of_reading hop rfl fun m => bitTest_eq m s

/-! ### Compare (R104 to R107) -/

theorem compareFlags_eq (r m : Byte) (s : State) :
    compareFlags r m s = { s with
      c := decide (m.toNat ≤ r.toNat)
      n := decide (128 ≤ (r.toNat + 256 - m.toNat) % 256)
      z := decide (r = m) } := by
  have hdiff : (r - m).toNat = (r.toNat + 256 - m.toNat) % 256 := by
    rw [BitVec.toNat_sub]
    omega
  have hz : decide (r - m = 0) = decide (r = m) := decide_eq_decide.mpr sub_eq_zero
  rw [compareFlags, setNZ, getLsbD_seven_eq, hdiff, hz]

/-- Settles O20: the flags in plain numbers; the carry in is overwritten, and the example is a subtraction. -/
theorem compareSetsCarryNegativeZero : Obligations.CompareSetsCarryNegativeZero :=
  ⟨fun r m s => ⟨compareFlags_eq r m s, fun _ => rfl⟩, fun _ => rfl⟩

/-- Settles O21: the three operations differ only in the register they compare. -/
theorem compareInstructionsCompareTheirRegister : Obligations.CompareInstructionsCompareTheirRegister := by
  intro instr s r hmem
  simp only [List.mem_cons, Prod.mk.injEq, List.not_mem_nil, or_false] at hmem
  obtain ⟨hop, rfl⟩ | ⟨hop, rfl⟩ | ⟨hop, rfl⟩ := hmem
  case inl => exact exec_of_reading hop rfl fun m => compareFlags_eq s.a m s
  case inr.inl => exact exec_of_reading hop rfl fun m => compareFlags_eq s.x m s
  case inr.inr => exact exec_of_reading hop rfl fun m => compareFlags_eq s.y m s

end Sys2Proof.Machine
end

section
/-! PROOFS. The increments and decrements (43_inc_dec.md R110 to R115): one more or less modulo 256 in plain numbers,
and what a read-modify-write of R99 does to memory and registers by its transformation alone. -/

namespace Sys2Proof.Machine

open Sys2Proof.Claims

/-! ### A read-modify-write of memory (R99) -/

/-- The registers after a read-modify-write, whose flags come from the byte written and its carry out. -/
theorem modifyMem_sameRegisters_withNZ (f : Transform) (ea : Word) (s : State) :
    SameRegisters (modifyMem f ea s)
      (withNZ (f (s.memRead ea) s.c).1 { s with c := (f (s.memRead ea) s.c).2 }) := by
  rw [modifyMem, setNZ_eq_withNZ]
  rfl

/-- A read-modify-write in a memory form changes one byte, to what the transformation of its operation makes of it. -/
theorem exec_of_modifying {instr : Instr} {op : Op} {f : Transform} (hop : instr.op = op)
    (heff : modifyEffect op = some f) (hmode : instr.mode ≠ .acc) (s : State) :
    ∃ ea t, effectiveAddress instr s = some ea ∧ exec instr s = .next t ∧
      t.memRead ea = (f (s.memRead ea) s.c).1 ∧
      SameRegisters t (withNZ (f (s.memRead ea) s.c).1 { s with c := (f (s.memRead ea) s.c).2 }) ∧
      ∀ other, other ≠ ea → t.memRead other = s.memRead other := by
  obtain ⟨hacc, -⟩ | ⟨-, ea, hea, hexec⟩ := exec_modifying (hop ▸ heff) s
  · exact absurd hacc hmode
  · refine ⟨ea, modifyMem f ea s, hea, hexec, ?_, modifyMem_sameRegisters_withNZ f ea s, fun other hother => ?_⟩
    · rw [memRead_modifyMem, if_pos rfl]
    · rw [memRead_modifyMem, if_neg hother]

/-! ### INC and DEC (R110, R111) -/

/-- Table A of R53 gives the accumulator form to the shifts and rotates alone. -/
theorem op_of_acc {instr : Instr} (hmode : instr.mode = .acc) : instr.op ∈ [.asl, .lsr, .rol, .ror] := by
  cases instr <;> cases hmode <;> simp [Instr.op, Instr.view]

theorem ofInt_toNat_add (v : Byte) (delta : Int) : BitVec.ofInt 8 (v.toNat + delta) = v + BitVec.ofInt 8 delta := by
  rw [BitVec.ofInt_add, BitVec.ofInt_natCast, BitVec.ofNat_toNat, BitVec.setWidth_eq]

theorem incT_eq_add (v : Byte) (cin : Bool) : incT v cin = (v + BitVec.ofInt 8 1, cin) := rfl

theorem decT_eq_add (v : Byte) (cin : Bool) : decT v cin = (v + BitVec.ofInt 8 (-1), cin) := by
  rw [decT, BitVec.sub_eq_add_neg]
  rfl

/-- A transformation that adds `delta` and hands the carry through, in any memory form of its operation. -/
theorem exec_of_adding {instr : Instr} {op : Op} {f : Transform} {delta : Int} (hop : instr.op = op)
    (heff : modifyEffect op = some f) (hshift : op ∉ [.asl, .lsr, .rol, .ror])
    (hf : ∀ v cin, f v cin = (v + BitVec.ofInt 8 delta, cin)) (s : State) :
    ∃ ea t, effectiveAddress instr s = some ea ∧ exec instr s = .next t ∧
      t.memRead ea = BitVec.ofInt 8 ((s.memRead ea).toNat + delta) ∧
      SameRegisters t (withNZ (BitVec.ofInt 8 ((s.memRead ea).toNat + delta)) s) ∧
      ∀ other, other ≠ ea → t.memRead other = s.memRead other := by
  have hmode : instr.mode ≠ .acc := fun hacc => hshift (hop ▸ op_of_acc hacc)
  simpa only [hf, ofInt_toNat_add] using exec_of_modifying hop heff hmode s

/-- Settles O25: both are read-modify-writes that add to the byte, the decrement -1, and keep C. -/
theorem incAndDecModifyOneByte : Obligations.IncAndDecModifyOneByte := by
  intro instr s delta hmem
  simp only [List.mem_cons, Prod.mk.injEq, List.not_mem_nil, or_false] at hmem
  obtain ⟨hop, rfl⟩ | ⟨hop, rfl⟩ := hmem
  case inl => exact exec_of_adding hop rfl (by decide) incT_eq_add s
  case inr => exact exec_of_adding hop rfl (by decide) decT_eq_add s

/-! ### INX, INY, DEX and DEY (R112 to R115) -/

/-- An instruction of no group answers `t`, if that is what its own effect makes of the state. -/
theorem exec_of_own {instr : Instr} {e : State → State} {s t : State} (heff : ownEffect instr = some e)
    (ht : e s = t) : exec instr s = .next t :=
  ht ▸ exec_own heff s

theorem loadX_eq_withNZ (v : Byte) (s : State) : loadX v s = withNZ v { s with x := v } := setNZ_eq_withNZ v _

theorem loadY_eq_withNZ (v : Byte) (s : State) : loadY v s = withNZ v { s with y := v } := setNZ_eq_withNZ v _

theorem ofNat_toNat_add (v : Byte) (k : Nat) : BitVec.ofNat 8 (v.toNat + k) = v + BitVec.ofNat 8 k := by
  rw [BitVec.ofNat_add, BitVec.ofNat_toNat, BitVec.setWidth_eq]

theorem ofNat_toNat_add_255 (v : Byte) : BitVec.ofNat 8 (v.toNat + 255) = v - 1 :=
  (ofNat_toNat_add v 255).trans (BitVec.sub_eq_add_neg v 1).symm

/-- Settles O26: each loads its register with the sum or the difference, which is the number modulo 256. -/
theorem indexRegistersCountModulo256 : Obligations.IndexRegistersCountModulo256 := by
  intro s
  simp only [ofNat_toNat_add_255, ofNat_toNat_add, ← loadX_eq_withNZ, ← loadY_eq_withNZ]
  exact ⟨exec_of_own rfl rfl, exec_of_own rfl rfl, exec_of_own rfl rfl, exec_of_own rfl rfl⟩

end Sys2Proof.Machine
end

section
/-! PROOFS. ADC and SBC (44_add_subtract.md R120 to R123): the adder's carry and signed overflow in plain integers, and
SBC as the adder on the complement of the operand. -/

namespace Sys2Proof.Machine

open Sys2Proof.Claims

/-! ### The adder (R120) -/

/-- The adder by the registers and flags it writes. -/
theorem addWithCarry_eq_withNZ (m : Byte) (s : State) :
    addWithCarry m s = withNZ (BitVec.ofNat 8 (carrySum s.a m s.c))
      { s with
        a := BitVec.ofNat 8 (carrySum s.a m s.c)
        c := decide (255 < carrySum s.a m s.c)
        v := (addWithCarry m s).v } :=
  setNZ_eq_withNZ _ _

theorem and_0x80_ne_zero_iff_msb (v : Byte) : v &&& 0x80 ≠ 0 ↔ v.msb = true := by
  have hweight : (0x80 : Byte) = BitVec.twoPow 8 7 := rfl
  rw [hweight, BitVec.and_twoPow, BitVec.msb_eq_getLsbD_last]
  cases v.getLsbD 7 <;> decide

theorem xor_and_xor_eq_true_iff : ∀ a m r : Bool, ((a ^^ r) && (m ^^ r)) = true ↔ a = m ∧ r ≠ a := by
  decide

/-- V by the sign bits of the operands and of the result. -/
theorem addWithCarry_v_iff_msb (m : Byte) (s : State) :
    (addWithCarry m s).v = true ↔
      s.a.msb = m.msb ∧ (BitVec.ofNat 8 (carrySum s.a m s.c)).msb ≠ s.a.msb := by
  rw [addWithCarry_v, decide_eq_true_iff, and_0x80_ne_zero_iff_msb, BitVec.msb_and, BitVec.msb_xor, BitVec.msb_xor,
    xor_and_xor_eq_true_iff]

theorem bitInt_eq_toNat (b : Bool) : bitInt b = b.toNat := by
  cases b <;> rfl

/-- V by the signed sum: the sign bits, read as bounds on the three bytes, say that the sum does not fit. -/
theorem addWithCarry_v_iff_outOfSignedRange (m : Byte) (s : State) :
    (addWithCarry m s).v = true ↔ outOfSignedRange (s.a.toInt + m.toInt + bitInt s.c) := by
  have hcarry : s.c.toNat ≤ 1 := s.c.toNat_le
  rw [addWithCarry_v_iff_msb, bitInt_eq_toNat, outOfSignedRange]
  simp only [BitVec.msb_eq_decide, BitVec.toInt_eq_toNat_cond, BitVec.toNat_ofNat, carrySum, ne_eq, decide_eq_decide]
  omega

/-- Settles O22: the post-state with V as the adder leaves it, and the three readings of that V. -/
theorem adderComputesSumCarryOverflow : Obligations.AdderComputesSumCarryOverflow :=
  fun m s => ⟨(addWithCarry m s).v, addWithCarry_eq_withNZ m s, decide_eq_true_iff, addWithCarry_v_iff_msb m s,
    addWithCarry_v_iff_outOfSignedRange m s⟩

/-! ### ADC (R121, R123) -/

/-- Settles O23: the operation's effect is the adder on the operand byte. -/
theorem adcAddsWithCarry : Obligations.AdcAddsWithCarry := by
  intro instr s hop
  obtain ⟨m, hread, hexec⟩ := exec_of_reading hop rfl fun m => addWithCarry_eq_withNZ m s
  exact ⟨m, _, _, hread, BitVec.toNat_ofNat _ _, addWithCarry_v_iff_outOfSignedRange m s, hexec⟩

/-! ### SBC (R122, R123; D8) -/

theorem xor_0xFF_eq_not (m : Byte) : m ^^^ 0xFF = ~~~m := BitVec.xor_allOnes

/-- The signed value of a byte's complement. -/
theorem toInt_xor_0xFF (m : Byte) : (m ^^^ 0xFF).toInt = -m.toInt - 1 := by
  rw [xor_0xFF_eq_not, BitVec.toInt_eq_toNat_cond, BitVec.toInt_eq_toNat_cond, BitVec.toNat_not]
  split <;> split <;> omega

/-- R122: the sum with the complement is 256 more than the difference with borrow. -/
theorem carrySum_xor_0xFF (a m : Byte) (carry : Bool) :
    (carrySum a (m ^^^ 0xFF) carry : Int) = a.toNat - m.toNat - (1 - bitInt carry) + 256 := by
  rw [xor_0xFF_eq_not, carrySum, BitVec.toNat_not, bitInt_eq_toNat]
  omega

/-- The result is the difference modulo 256. -/
theorem ofNat_carrySum_xor_0xFF_toNat (a m : Byte) (carry : Bool) :
    ((BitVec.ofNat 8 (carrySum a (m ^^^ 0xFF) carry)).toNat : Int) =
      (a.toNat - m.toNat - (1 - bitInt carry)) % 256 := by
  rw [BitVec.toNat_ofNat, Int.natCast_mod, carrySum_xor_0xFF]
  exact Int.add_emod_right _ _

/-- The carry out says that there was no borrow. -/
theorem lt_carrySum_xor_0xFF_iff (a m : Byte) (carry : Bool) :
    255 < carrySum a (m ^^^ 0xFF) carry ↔ (m.toNat : Int) + (1 - bitInt carry) ≤ a.toNat := by
  have hsum := carrySum_xor_0xFF a m carry
  omega

theorem subWithCarry_v_iff_outOfSignedRange (m : Byte) (s : State) :
    (subWithCarry m s).v = true ↔ outOfSignedRange (s.a.toInt - m.toInt - (1 - bitInt s.c)) := by
  have hsum : s.a.toInt + (m ^^^ 0xFF).toInt + bitInt s.c = s.a.toInt - m.toInt - (1 - bitInt s.c) := by
    rw [toInt_xor_0xFF]
    ring
  rw [subWithCarry, addWithCarry_v_iff_outOfSignedRange, hsum]

/-- The subtraction by the registers and flags it writes. -/
theorem subWithCarry_eq_withNZ (m : Byte) (s : State) :
    subWithCarry m s = withNZ (BitVec.ofNat 8 (carrySum s.a (m ^^^ 0xFF) s.c))
      { s with
        a := BitVec.ofNat 8 (carrySum s.a (m ^^^ 0xFF) s.c)
        c := decide ((m.toNat : Int) + (1 - bitInt s.c) ≤ s.a.toNat)
        v := (subWithCarry m s).v } := by
  rw [← decide_eq_decide.mpr (lt_carrySum_xor_0xFF_iff s.a m s.c)]
  exact addWithCarry_eq_withNZ _ s

/-- Settles O24: the operation's effect is the adder on the complement, whose sum is the difference plus 256. -/
theorem sbcSubtractsWithBorrow : Obligations.SbcSubtractsWithBorrow := by
  intro instr s hop
  obtain ⟨m, hread, hexec⟩ := exec_of_reading hop rfl fun m => subWithCarry_eq_withNZ m s
  exact ⟨m, _, _, hread, ofNat_carrySum_xor_0xFF_toNat s.a m s.c, subWithCarry_v_iff_outOfSignedRange m s, hexec⟩

end Sys2Proof.Machine
end

section
/-! PROOFS. The shifts and rotates (45_shift_rotate.md R130 to R133): the four transformations in plain numbers, which
the accumulator form and the memory forms share. -/

namespace Sys2Proof.Machine

open Sys2Proof.Claims

/-! ### The transformations in plain numbers -/

theorem getLsbD_zero_eq (v : Byte) : v.getLsbD 0 = decide (v.toNat % 2 = 1) :=
  Nat.testBit_zero v.toNat

theorem shiftLeft_one_toNat (v : Byte) : (v <<< 1).toNat = 2 * v.toNat % 256 := by
  rw [BitVec.toNat_shiftLeft, Nat.shiftLeft_eq, Nat.mul_comm, pow_one]

theorem shiftRight_one_toNat (v : Byte) : (v >>> 1).toNat = v.toNat / 2 := by
  rw [BitVec.toNat_ushiftRight, Nat.shiftRight_one]

/-- R132: bit 0 of a byte shifted left is free, so the carry that enters there is added. -/
theorem shiftLeft_one_or_carry_toNat (v : Byte) (cin : Bool) :
    (v <<< 1 ||| statusBit cin 0).toNat = 2 * v.toNat % 256 + cin.toNat := by
  have hbit : (statusBit cin 0).toNat = cin.toNat := by cases cin <;> rfl
  have heven : 2 * v.toNat % 256 = 2 ^ 1 * (v.toNat % 128) := Nat.mul_mod_mul_left 2 v.toNat 128
  rw [BitVec.toNat_or, shiftLeft_one_toNat, hbit, heven, Nat.two_pow_add_eq_or_of_lt cin.toNat_lt]

/-- R133: bit 7 of a byte shifted right is free, so the carry that enters there is added. -/
theorem shiftRight_one_or_carry_toNat (v : Byte) (cin : Bool) :
    (v >>> 1 ||| statusBit cin 7).toNat = v.toNat / 2 + 128 * cin.toNat := by
  have hbit : (statusBit cin 7).toNat = 2 ^ 7 * cin.toNat := by cases cin <;> rfl
  have hlow : v.toNat / 2 < 2 ^ 7 := by omega
  rw [BitVec.toNat_or, shiftRight_one_toNat, hbit, Nat.or_comm, ← Nat.two_pow_add_eq_or_of_lt hlow, Nat.add_comm]

/-- Each shift is a read-modify-write, whose transformation is `shiftOf` of the byte and the carry. -/
theorem exists_transform_of_shift {op : Op} (hop : op ∈ [.asl, .lsr, .rol, .ror]) :
    ∃ f, modifyEffect op = some f ∧
      ∀ v cin, shiftOf op v.toNat cin.toNat = some ((f v cin).1.toNat, (f v cin).2) := by
  simp only [List.mem_cons, List.not_mem_nil, or_false] at hop
  obtain rfl | rfl | rfl | rfl := hop
  case inl =>
    refine ⟨aslT, rfl, fun v cin => ?_⟩
    rw [shiftOf, aslT, shiftLeft_one_toNat, getLsbD_seven_eq]
  case inr.inl =>
    refine ⟨lsrT, rfl, fun v cin => ?_⟩
    rw [shiftOf, lsrT, shiftRight_one_toNat, getLsbD_zero_eq]
  case inr.inr.inl =>
    refine ⟨rolT, rfl, fun v cin => ?_⟩
    rw [shiftOf, rolT, shiftLeft_one_or_carry_toNat, getLsbD_seven_eq]
  case inr.inr.inr =>
    refine ⟨rorT, rfl, fun v cin => ?_⟩
    rw [shiftOf, rorT, shiftRight_one_or_carry_toNat, getLsbD_zero_eq]

/-! ### The accumulator form and the memory forms -/

theorem modifyAcc_eq_withNZ (f : Transform) (s : State) :
    modifyAcc f s = withNZ (f s.a s.c).1 { s with a := (f s.a s.c).1, c := (f s.a s.c).2 } :=
  setNZ_eq_withNZ _ _

/-- Settles O27: only the shifts have the accumulator form, and each modifies A by its transformation. -/
theorem shiftsOfTheAccumulator : Obligations.ShiftsOfTheAccumulator := by
  intro instr s hmode
  obtain ⟨f, heff, hshift⟩ := exists_transform_of_shift (op_of_acc hmode)
  obtain ⟨-, hexec⟩ | ⟨hmem, -⟩ := exec_modifying heff s
  · refine ⟨(f s.a s.c).1.toNat, (f s.a s.c).2, hshift s.a s.c, BitVec.isLt _, ?_⟩
    rw [hexec, modifyAcc_eq_withNZ, BitVec.ofNat_toNat, BitVec.setWidth_eq]
  · exact absurd hmode hmem

/-- Settles O28: each shift modifies the byte at its address by its transformation. -/
theorem shiftsOfMemory : Obligations.ShiftsOfMemory := by
  intro instr s hop hmode
  obtain ⟨f, heff, hshift⟩ := exists_transform_of_shift hop
  obtain ⟨ea, t, hea, hexec, hbyte, hregs, hframe⟩ := exec_of_modifying rfl heff hmode s
  refine ⟨ea, (f (s.memRead ea) s.c).1.toNat, (f (s.memRead ea) s.c).2, t, hea, hshift _ _, BitVec.isLt _, hexec, ?_⟩
  rw [BitVec.ofNat_toNat, BitVec.setWidth_eq]
  exact ⟨hbyte, hregs, hframe⟩

end Sys2Proof.Machine
end

section
/-! PROOFS. The loads, stores and register transfers (46_load_store_transfer.md R140 to R151): what each makes of the state,
by its operation alone. -/

namespace Sys2Proof.Machine

open Sys2Proof.Claims

/-! ### Loads (R140 to R142) -/

theorem loadA_eq_withNZ (v : Byte) (s : State) : loadA v s = withNZ v { s with a := v } := setNZ_eq_withNZ v _

/-- Settles O29: each is the load of its register with the operand byte. -/
theorem loadsWriteTheirRegister : Obligations.LoadsWriteTheirRegister :=
  fun _ s => ⟨fun hop => exec_of_reading hop rfl fun m => loadA_eq_withNZ m s,
    fun hop => exec_of_reading hop rfl fun m => loadX_eq_withNZ m s,
    fun hop => exec_of_reading hop rfl fun m => loadY_eq_withNZ m s⟩

/-! ### Stores (R143 to R145) -/

/-- A store, in any form of its operation, is one write of the memory port at its address. -/
theorem exec_of_storing {instr : Instr} {op : Op} {reg : State → Byte} (hop : instr.op = op)
    (heff : storeEffect op = some reg) (s : State) :
    ∃ ea t, effectiveAddress instr s = some ea ∧ exec instr s = .next t ∧ SameRegisters t s ∧
      t.memRead ea = reg s ∧ ∀ other, other ≠ ea → t.memRead other = s.memRead other := by
  obtain ⟨ea, hea, hexec⟩ := exec_storing (hop ▸ heff) s
  obtain ⟨hbyte, hframe, hregs⟩ := memoryPortStoresOneByte s ea (reg s)
  exact ⟨ea, s.memWrite ea (reg s), hea, hexec, hregs, hbyte, hframe⟩

/-- Settles O30: the three operations differ only in the register they store. -/
theorem storesWriteOneByte : Obligations.StoresWriteOneByte := by
  intro instr s r hmem
  simp only [List.mem_cons, Prod.mk.injEq, List.not_mem_nil, or_false] at hmem
  obtain ⟨hop, rfl⟩ | ⟨hop, rfl⟩ | ⟨hop, rfl⟩ := hmem
  case inl => exact exec_of_storing hop rfl s
  case inr.inl => exact exec_of_storing hop rfl s
  case inr.inr => exact exec_of_storing hop rfl s

/-! ### Transfers (R146 to R151) -/

/-- Settles O31: five load their destination with the source register; TXS writes SP and no flag. -/
theorem transfersCopyARegister : Obligations.TransfersCopyARegister :=
  fun s => ⟨exec_of_own rfl (loadX_eq_withNZ s.a s), exec_of_own rfl (loadY_eq_withNZ s.a s),
    exec_of_own rfl (loadA_eq_withNZ s.x s), exec_of_own rfl (loadA_eq_withNZ s.y s),
    exec_of_own rfl (loadX_eq_withNZ s.sp s), exec_of_own rfl rfl⟩

end Sys2Proof.Machine
end

section
/-! PROOFS. The jumps, branches, subroutine call and return (47_control_transfer.md R160 to R172): the branch target as
one addition of integers, and the call and the return over the stack, of which the matching pair is the composition. -/

namespace Sys2Proof.Machine

open Sys2Proof.Claims

/-! ### Jumps (R160, R161) -/

/-- Settles O32: the meaning of either form writes PC and nothing else. -/
theorem jumpsWriteOnlyThePc : Obligations.JumpsWriteOnlyThePc :=
  fun _ _ => ⟨exec_of_own rfl rfl, exec_of_own rfl rfl⟩

/-! ### Branches (R162 to R170) -/

/-- R162 in integers: the target is the address after the branch plus the signed offset, modulo 65536. -/
theorem relTarget_eq_ofInt (pc : Word) (off : Byte) : relTarget pc off = BitVec.ofInt 16 (pc.toNat + off.toInt) := by
  have hsum := relTarget_toNat_eq_add_toInt pc off
  exact BitVec.eq_of_toNat_eq (by rw [BitVec.toNat_ofInt]; omega)

/-- Settles O33: an instruction of the relative form is a branch by its one condition, and `branchIf` writes PC alone. -/
theorem branchesTestOneFlag : Obligations.BranchesTestOneFlag := by
  intro instr s hmode
  obtain ⟨taken, heff⟩ := (mode_eq_rel_iff instr).mp hmode
  obtain ⟨off, hoff, hexec⟩ := exec_branch heff s
  refine ⟨off, taken s, hoff, branchTaken_of_branchEffect heff s, ?_⟩
  rw [hexec, branchIf_eq_with_pc, relTarget_eq_ofInt]

/-! ### Call and return (R171, R172; D5) -/

/-- Settles O34: the call is the push of PC, whose two bytes and frame O7 gives, and the write of PC. -/
theorem jsrPushesTheReturnAddress : Obligations.JsrPushesTheReturnAddress := by
  intro s target
  obtain ⟨-, hhigh, hlow, hframe⟩ := pushedWordIsPulledBack s s.pc
  have hsp : s.sp - 1 - 1 = s.sp - 2 := by bv_omega
  have hregs : SameRegisters (callSubroutine target s) { s with pc := target, sp := s.sp - 2 } := by
    rw [← hsp]
    rfl
  exact ⟨callSubroutine target s, exec_own rfl s, hregs, hhigh, hlow, hframe⟩

theorem returnFromSubroutine_eq (s : State) :
    returnFromSubroutine s =
      { s with pc := wordOf (stackByte s (s.sp + 2)) (stackByte s (s.sp + 1)), sp := s.sp + 2 } := by
  have hsp : s.sp + 1 + 1 = s.sp + 2 := BitVec.add_assoc s.sp 1 1
  exact congrArg (fun sp => { s with pc := wordOf (stackByte s sp) (stackByte s (s.sp + 1)), sp := sp }) hsp

/-- Settles O35: the two pulls read above SP and raise it, and the word read is the new PC as it is. -/
theorem rtsPullsThePc : Obligations.RtsPullsThePc := fun s => exec_of_own rfl (returnFromSubroutine_eq s)

/-- Settles O36: the return reads, from the SP and the memory that the call left, the two bytes that the call pushed. -/
theorem rtsUndoesTheMatchingJsr : Obligations.RtsUndoesTheMatchingJsr := by
  intro s t u target hjsr hsp hmem
  obtain ⟨t', hjsr', hregs, hhigh, hlow, -⟩ := jsrPushesTheReturnAddress s target
  cases hjsr'.symm.trans hjsr
  have hsp_call : u.sp = s.sp - 2 := hsp.trans (congrArg State.sp hregs)
  have hsp_high : u.sp + 2 = s.sp := by bv_omega
  have hsp_low : u.sp + 1 = s.sp - 1 := by bv_omega
  have hbytes : ∀ sp, stackByte u sp = t.memRead (stackAddr sp) := fun sp => memRead_congr hmem (stackAddr sp)
  rw [rtsPullsThePc u, hbytes, hbytes, hsp_high, hsp_low, hhigh, hlow, wordOf_hiByte_loByte]

end Sys2Proof.Machine
end

section
/-! PROOFS. The stack pushes and pulls, the flag instructions, NOP and BRK (48_stack_flags_nop.md R180 to R191,
49_halting.md R200): the status byte in numbers and bit by bit, and a pull as the inverse of a push. -/

namespace Sys2Proof.Machine

open Sys2Proof.Claims

/-! ### The status byte (R15, R16) -/

/-- R181: the pushed status as the number that its bits denote. -/
theorem pushedStatus_eq_ofNat (s : State) :
    pushedStatus s = BitVec.ofNat 8 (128 * s.n.toNat + 64 * s.v.toNat + 32 + 16 + 8 * s.d.toNat + 4 * s.i.toNat +
      2 * s.z.toNat + s.c.toNat) := by
  rw [pushedStatus_eq_without_b]
  generalize s.n = n, s.v = v, s.d = d, s.i = i, s.z = z, s.c = c
  revert n v d i z c
  decide

/-- R15: each bit of the pushed status that PLP reads. -/
theorem getLsbD_pushedStatus (s : State) :
    (pushedStatus s).getLsbD 7 = s.n ∧ (pushedStatus s).getLsbD 6 = s.v ∧ (pushedStatus s).getLsbD 4 = true ∧
      (pushedStatus s).getLsbD 3 = s.d ∧ (pushedStatus s).getLsbD 2 = s.i ∧ (pushedStatus s).getLsbD 1 = s.z ∧
      (pushedStatus s).getLsbD 0 = s.c := by
  rw [pushedStatus_eq_without_b]
  generalize s.n = n, s.v = v, s.d = d, s.i = i, s.z = z, s.c = c
  revert n v d i z c
  decide

/-- R183: unpacking the pushed status gives back every flag but B, which it sets. -/
theorem unpack_pushedStatus (s : State) : unpack (pushedStatus s) s = { s with b := true } := by
  obtain ⟨hn, hv, hb, hd, hi, hz, hc⟩ := getLsbD_pushedStatus s
  rw [unpack, hn, hv, hb, hd, hi, hz, hc]

/-! ### Push and pull (R180 to R183; D5) -/

/-- A push, by its byte, its registers and its frame. -/
theorem push_storesOneByte (s : State) (v : Byte) :
    (s.push v).memRead (stackAddr s.sp) = v ∧ SameRegisters (s.push v) { s with sp := s.sp - 1 } ∧
      ∀ other, other ≠ stackAddr s.sp → (s.push v).memRead other = s.memRead other :=
  ⟨by rw [memRead_push, if_pos rfl], rfl, fun other hother => by rw [memRead_push, if_neg hother]⟩

/-- Settles O37: the two instructions push A and the status. -/
theorem pushesStoreOneByte : Obligations.PushesStoreOneByte := by
  intro s instr value hmem
  simp only [← pushedStatus_eq_ofNat, List.mem_cons, Prod.mk.injEq, List.not_mem_nil, or_false] at hmem
  obtain ⟨rfl, rfl⟩ | ⟨rfl, rfl⟩ := hmem
  case inl => exact ⟨s.push s.a, exec_of_own rfl rfl, push_storesOneByte s s.a⟩
  case inr => exact ⟨s.push (pushedStatus s), exec_of_own rfl rfl, push_storesOneByte s (pushedStatus s)⟩

/-- Settles O38: the byte pulled loads A, or its bits the flags. -/
theorem pullsLoadOneByte : Obligations.PullsLoadOneByte :=
  fun s => ⟨exec_of_own rfl (loadA_eq_withNZ s.pull.1 s.pull.2), exec_of_own rfl rfl⟩

/-- A pull undoes a push, but for the byte that the push left in memory. -/
theorem pull_push (s : State) (v : Byte) : (s.push v).pull = (v, { s with mem := (s.push v).mem }) := by
  have hsp : (s.push v).sp + 1 = s.sp := BitVec.sub_add_cancel s.sp 1
  refine Prod.ext ?_ ?_
  · rw [pull_fst, hsp, memRead_push, if_pos rfl]
  · exact congrArg (fun sp => { s with sp := sp, mem := (s.push v).mem }) hsp

/-- Settles O39: the byte pulled is the status that was pushed. -/
theorem plpUndoesPhpButSetsB : Obligations.PlpUndoesPhpButSetsB := by
  intro s t hphp
  have ht : s.push (pushedStatus s) = t := Host.Outcome.next.inj ((exec_own rfl s).symm.trans hphp)
  have hpull : t.pull = (pushedStatus s, { s with mem := t.mem }) := ht ▸ pull_push s (pushedStatus s)
  have hflags : unpack t.pull.1 t.pull.2 = { s with b := true, mem := t.mem } := by
    rw [hpull]
    exact congrArg (fun u => { u with mem := t.mem }) (unpack_pushedStatus s)
  exact ⟨{ s with b := true, mem := t.mem }, exec_of_own rfl hflags, rfl, rfl⟩

/-! ### The flag instructions, NOP and BRK (R184 to R191, R200) -/

/-- Settles O40: the meaning of each writes its flag and nothing else, that of NOP nothing. -/
theorem flagInstructionsWriteOneFlag : Obligations.FlagInstructionsWriteOneFlag :=
  fun _ => ⟨exec_of_own rfl rfl, exec_of_own rfl rfl, exec_of_own rfl rfl, exec_of_own rfl rfl, exec_of_own rfl rfl,
    exec_of_own rfl rfl, exec_of_own rfl rfl, exec_of_own rfl rfl⟩

/-- Settles O41: BRK raises its condition, and rolling PC back undoes the fetch of the one opcode byte. -/
theorem brkSignalsBreak : Obligations.BrkSignalsBreak :=
  ⟨raiseCondition_eq .brk, fun _ => step_of_brk_opcode⟩

end Sys2Proof.Machine
end

section
/-! PROOFS. The host's operations (70_reset_and_hazards.md R230 to R235): what `load` stores, and that every operation
keeps the memory's canonical form. -/

namespace Sys2Proof.Machine

open Sys2Proof.Claims

/-! ### Load (R233; D16) -/

/-- A sequence stored from `addr` on, read at any address: the byte that lies as far into the sequence as the address
lies past `addr`, modulo 65536. The bound says that no byte of it overwrites an earlier one. -/
theorem memRead_memWriteBytes (s : State) (addr other : Word) (bytes : List Byte) (hlen : bytes.length ≤ 65536) :
    (s.memWriteBytes addr bytes).memRead other = bytes[(other - addr).toNat]?.getD (s.memRead other) := by
  induction bytes generalizing s addr with
  | nil => rfl
  | cons v rest ih =>
    rw [List.length_cons] at hlen
    rw [State.memWriteBytes, ih (s.memWrite addr v) (addr + 1) (by omega), memRead_memWrite]
    by_cases hother : other = addr
    · have hpast : rest.length ≤ (other - (addr + 1)).toNat := by bv_omega
      have hzero : (other - addr).toNat = 0 := by bv_omega
      rw [if_pos hother, List.getElem?_eq_none hpast, hzero]
      rfl
    · have hsucc : (other - addr).toNat = (other - (addr + 1)).toNat + 1 := by bv_omega
      rw [if_neg hother, hsucc, List.getElem?_cons_succ]

theorem memWriteBytes_sameRegisters (s : State) (addr : Word) (bytes : List Byte) :
    SameRegisters (s.memWriteBytes addr bytes) s := by
  induction bytes generalizing s addr with
  | nil => rfl
  | cons v rest ih => exact ih (s.memWrite addr v) (addr + 1)

theorem hostLoad_of_fits {r : LoadRequest} (h : r.addr.toNat + r.bytes.length ≤ 65536) (s : State) :
    hostLoad r s = .next (s.memWriteBytes r.addr r.bytes) :=
  if_pos (decide_eq_true h)

theorem hostLoad_of_pastEnd {r : LoadRequest} (h : 65536 < r.addr.toNat + r.bytes.length) (s : State) :
    hostLoad r s = .refused (.loadPastEnd r.addr r.bytes.length) :=
  if_neg fun hwf => absurd (of_decide_eq_true hwf) h.not_ge

/-- Settles O58: inside the address space the distance of an address from the first is its index in the sequence. -/
theorem loadCopiesTheBytes : Obligations.LoadCopiesTheBytes := by
  intro r s
  refine ⟨fun hfits => ?_, fun hlong => hostLoad_of_pastEnd hlong s⟩
  have hread := fun other => memRead_memWriteBytes s r.addr other r.bytes (by omega)
  refine ⟨s.memWriteBytes r.addr r.bytes, hostLoad_of_fits hfits s, memWriteBytes_sameRegisters s r.addr r.bytes,
    fun k hk => ?_, fun addr hout => ?_⟩
  · have hindex : (r.addr + BitVec.ofNat 16 k - r.addr).toNat = k := by bv_omega
    rw [hread, hindex, List.getElem?_eq_getElem hk, Option.getD_some]
  · have hpast : r.bytes.length ≤ (addr - r.addr).toNat := by bv_omega
    rw [hread, List.getElem?_eq_none hpast, Option.getD_none]

/-! ### The canonical form -/

/-- A load that is accepted keeps the canonical form. -/
theorem hostLoad_keeps_wf {r : LoadRequest} {s t : State} (hs : s.mem.wf) (h : hostLoad r s = .next t) : t.mem.wf := by
  rcases Nat.lt_or_ge 65536 (r.addr.toNat + r.bytes.length) with hlong | hfits
  · cases (hostLoad_of_pastEnd hlong s).symm.trans h
  · cases (hostLoad_of_fits hfits s).symm.trans h
    exact memWriteBytes_wf r.addr r.bytes hs

/-- A run that meets its bound keeps the canonical form, as every step of it does. -/
theorem hostRun_keeps_wf {n : Nat} {s t : State} (hs : s.mem.wf) (h : hostRun n s = .next t) : t.mem.wf := by
  induction n generalizing s with
  | zero =>
    cases h
    exact hs
  | succ n ih =>
    cases hstep : step s with
    | next u => exact ih (stepKeepsMemoryCanonical s u hs hstep) ((hostRun_of_next hstep n).symm.trans h)
    | fault f => cases (hostRun_of_fault hstep n).symm.trans h
    | refused r => exact absurd hstep (step_not_refused s r)

/-- Settles O12: power-on starts from the empty memory, reset and a write of registers keep the memory they find, and
the other operations store by the memory port. -/
theorem hostOperationsKeepMemoryCanonical : Obligations.HostOperationsKeepMemoryCanonical := by
  intro op s t hs h
  cases op with
  | powerOn given =>
    cases h
    exact hostPowerOn_wf given
  | reset =>
    cases h
    exact hs
  | load r => exact hostLoad_keeps_wf hs h
  | step => exact stepKeepsMemoryCanonical s t hs h
  | run n => exact hostRun_keeps_wf hs h
  | writeRegs regs =>
    cases h
    exact hs
  | writeByte addr v =>
    cases h
    exact memWrite_wf addr v hs

end Sys2Proof.Machine
end
